-- ==== Sys2Proof/Word.lean ====
section
/-! DEFINITION. The byte and index types of the KA24, and the few names that arguments and state share. -/

namespace Sys2Proof

/-- One byte of a frame (section 9.2). -/
abbrev Byte := BitVec 8

/-- A two-byte value of a frame, most significant byte first (R171). -/
abbrev Half := BitVec 16

/-- Master ports P0 to P5 (Table 0-5). -/
abbrev Port := Fin 6

/-- Robot slots 0 to 15 (Table 0-5). -/
abbrev Robot := Fin 16

/-- Alliances 0 to 3 (Table 0-5). -/
abbrev Alliance := Fin 4

/-- Elements E0 to E23 (Table 0-5). -/
abbrev Elem := Fin 24

/-- Element groups 0 to 3, one per field stop line (Table 0-5). -/
abbrev Group := Fin 4

/-- A set of alliances, bit n for alliance n (Table 9-6). -/
abbrev AllianceSet := BitVec 4

/-- The role of a port (R160, R161). -/
inductive Role where
  | referee | bridge | panel
  deriving DecidableEq, Repr

/-- The two sense inputs of an element. -/
inductive SenseId where
  | s0 | s1
  deriving DecidableEq, Repr

/-- The two drive lines of an element. -/
inductive Line where
  | d0 | d1
  deriving DecidableEq, Repr

/-- The two directions of a gate (section 5.2). -/
inductive Direction where
  | out | back
  deriving DecidableEq, Repr

end Sys2Proof
end

