-- ==== Sys2Proof/Syntax.lean ====
section
/-! DEFINITION. The commands of the KA24: one constructor for each row of spec/opcode_table.json.
A request carries the port that sends it and its raw argument bytes as Table 9-7 orders them. -/

namespace Sys2Proof

/-- The 13 argument bytes of SET TIMING (R9). -/
structure TimingArgs where
  autoS : Half
  breakS : Half
  driveS : Half
  endgameS : Half
  autoMul : Byte
  driveMul : Byte
  endgameMul : Byte
  silence : Half
  deriving DecidableEq, Repr

/-- The argument bytes of SET ELEMENT behind the element number (R24). -/
structure HeaderArgs where
  kind : Byte
  group : Byte
  s0 : Byte
  s1 : Byte
  drive : Byte
  value1 : Half
  value2 : Half
  deriving DecidableEq, Repr

/-- The argument bytes of a profile, from the use to the quota (R27, R34). -/
structure ProfileArgs where
  use : Byte
  mask : Byte
  hold : Byte
  cooldown : Half
  weight : Byte
  credit : Byte
  feedPeriod : Half
  interval : Half
  quota : Byte
  deriving DecidableEq, Repr

/-- The commands. -/
inductive Instr where
  /-- Release of RST: the levels sampled on the straps of P1 to P5 (bit n-1 for Pn), on the sense pins
  (bit 2e for S0 of Ee, bit 2e+1 for S1) and on FS0 to FS3. A set bit is a high level. -/
  | hardwareReset (straps : BitVec 5) (sense : BitVec 48) (fs : BitVec 4)
  /-- The 1 ms tick with the levels sampled at it, laid out as for `hardwareReset`. -/
  | tick (sense : BitVec 48) (fs : BitVec 4)
  | autoExpiry
  | breakExpiry
  | endgameThreshold
  | naturalFinish
  | feedPendingStart (e : Elem)
  | benchExpiry (r : Robot)
  | silenceExpiry (p : Port)
  | shotExpiry (e : Elem)
  | rateExpiry (e : Elem)
  | waveHalfChange (e : Elem)
  | strobeExpiry (e : Elem)
  | claimTimerExpiry (e : Elem)
  | senseChangeAccepted (e : Elem) (i : SenseId)
  | fieldStopAsserted (g : Group)
  | fieldStopReleased (g : Group)
  | gateArrival (e : Elem)
  | returnEnd (e : Elem)
  | ping (p : Port)
  | readClock (p : Port)
  | readScores (p : Port)
  | readRobot (p : Port) (robot : Byte)
  | readElement (p : Port) (element : Byte)
  | readNotice (p : Port) (count : Byte)
  | subscribe (p : Port) (mask : Byte)
  | snapshot (p : Port) (mask : BitVec 24)
  | readSnapshot (p : Port)
  | claim (p : Port) (robot element : Byte)
  | release (p : Port) (robot element : Byte)
  | withdraw (p : Port) (robot : Byte)
  | move (p : Port) (robot element direction : Byte)
  | dispense (p : Port) (robot element : Byte)
  | setTiming (p : Port) (args : TimingArgs)
  | setElement (p : Port) (element : Byte) (args : HeaderArgs)
  | setProfile (p : Port) (element phase : Byte) (args : ProfileArgs)
  | bind (p : Port) (robot port alliance : Byte)
  | unbind (p : Port) (robot : Byte)
  | lineTest (p : Port) (element line : Byte) (width : Half)
  | arm (p : Port)
  | disarm (p : Port)
  | start (p : Port)
  | halt (p : Port)
  | resume (p : Port)
  | abort (p : Port)
  | finalise (p : Port)
  | newMatch (p : Port)
  | penalty (p : Port) (robot points bench : Byte)
  | adjust (p : Port) (alliance : Byte) (amount : Half)
  | free (p : Port) (element : Byte)
  | rearm (p : Port) (element : Byte)
  | tune (p : Port) (element : Byte) (value : Half)
  | stageOpen (p : Port)
  | stagePut (p : Port) (element : Byte) (args : ProfileArgs)
  | stageSeal (p : Port)
  | stageDiscard (p : Port)
  | unknownAnswer (p : Port) (code : Byte)
  | roleAnswer (p : Port) (code : Byte)
  | selectReleased (p : Port)
  | selectActive (p : Port)
  | rstActive
  deriving DecidableEq, Repr

end Sys2Proof
end

