-- ==== Sys2Proof/Decode.lean ====
section
/-! DEFINITION. The request table (Table 9-7) and the reading of a frame's bytes as a command (R163, R164),
with the frame that spells each request. No row of spec/opcode_table.json gives bits, so `decodeTableWord`
reads no word. -/

namespace Sys2Proof

/-- One row of Table 9-7: the roles it is open to, its argument bytes and its answer bytes (for READ NOTICE and
READ SNAPSHOT the count byte alone). -/
structure RequestRow where
  referee : Bool
  bridge : Bool
  panel : Bool
  args : Nat
  answer : Nat
  deriving DecidableEq, Repr

/-- A request open to every role. -/
def rowAll (args answer : Nat) : RequestRow := ⟨true, true, true, args, answer⟩
/-- A request of a bridge. -/
def rowBridge (args answer : Nat) : RequestRow := ⟨false, true, false, args, answer⟩
/-- A request of the referee. -/
def rowReferee (args answer : Nat) : RequestRow := ⟨true, false, false, args, answer⟩

/-- Whether a request is open to a role (R169). -/
def RequestRow.openTo (row : RequestRow) : Role → Bool
  | .referee => row.referee
  | .bridge => row.bridge
  | .panel => row.panel

/-- Table 9-7. `none` for a code not in the table, which R163 answers UNKNOWN. -/
def requestRow (code : Byte) : Option RequestRow :=
  match code with
  | 0x01#8 => some (rowAll 0 4)
  | 0x02#8 => some (rowAll 0 6)
  | 0x03#8 => some (rowAll 0 29)
  | 0x04#8 => some (rowAll 1 11)
  | 0x05#8 => some (rowAll 1 19)
  | 0x06#8 => some (rowAll 1 1)
  | 0x07#8 => some (rowAll 1 1)
  | 0x08#8 => some (rowAll 3 1)
  | 0x09#8 => some (rowAll 0 1)
  | 0x20#8 => some (rowBridge 2 3)
  | 0x21#8 => some (rowBridge 2 0)
  | 0x22#8 => some (rowBridge 1 2)
  | 0x23#8 => some (rowBridge 3 1)
  | 0x24#8 => some (rowBridge 2 2)
  | 0x40#8 => some (rowReferee 13 13)
  | 0x41#8 => some (rowReferee 10 10)
  | 0x42#8 => some (rowReferee 14 14)
  | 0x43#8 => some (rowReferee 3 0)
  | 0x44#8 => some (rowReferee 1 0)
  | 0x45#8 => some (rowReferee 4 2)
  | 0x50#8 => some (rowReferee 0 1)
  | 0x51#8 => some (rowReferee 0 0)
  | 0x52#8 => some (rowReferee 0 0)
  | 0x53#8 => some (rowReferee 0 0)
  | 0x54#8 => some (rowReferee 0 0)
  | 0x55#8 => some (rowReferee 0 0)
  | 0x56#8 => some (rowReferee 0 0)
  | 0x57#8 => some (rowReferee 0 0)
  | 0x60#8 => some (rowReferee 3 3)
  | 0x61#8 => some (rowReferee 3 6)
  | 0x62#8 => some (rowReferee 1 0)
  | 0x63#8 => some (rowReferee 1 1)
  | 0x64#8 => some (rowReferee 3 2)
  | 0x70#8 => some (rowReferee 0 0)
  | 0x71#8 => some (rowReferee 13 1)
  | 0x72#8 => some (rowReferee 0 1)
  | 0x73#8 => some (rowReferee 0 1)
  | _ => none

/-- A two-byte value from its bytes, most significant first (R171). -/
def joinHalf (hi lo : Byte) : Half := hi ++ lo

/-- The bytes of a two-byte value, most significant first (R171). -/
def splitHalf (h : Half) : List Byte := [h.extractLsb' 8 8, h.extractLsb' 0 8]

/-- The bytes of the SNAPSHOT mask, E23 first (Table 9-7). -/
def splitMask (m : BitVec 24) : List Byte := [m.extractLsb' 16 8, m.extractLsb' 8 8, m.extractLsb' 0 8]

/-- The profile bytes of SET PROFILE and STAGE PUT, from the use to the quota. -/
def profileArgs : List Byte → Option ProfileArgs
  | use :: mask :: hold :: c1 :: c0 :: weight :: credit :: f1 :: f0 :: i1 :: i0 :: quota :: _ =>
    some ⟨use, mask, hold, joinHalf c1 c0, weight, credit, joinHalf f1 f0, joinHalf i1 i0, quota⟩
  | _ => none

/-- The profile bytes as they are sent. -/
def profileBytes (a : ProfileArgs) : List Byte :=
  [a.use, a.mask, a.hold] ++ splitHalf a.cooldown ++ [a.weight, a.credit] ++ splitHalf a.feedPeriod
    ++ splitHalf a.interval ++ [a.quota]

/-- The request that a known code and its argument bytes spell, once enough of them have come. The code's row
is looked up by the caller. -/
def requestOf (p : Port) (code : Byte) (args : List Byte) : Option Instr :=
  match code, args with
  | 0x01#8, _ => some (.ping p)
  | 0x02#8, _ => some (.readClock p)
  | 0x03#8, _ => some (.readScores p)
  | 0x04#8, r :: _ => some (.readRobot p r)
  | 0x05#8, e :: _ => some (.readElement p e)
  | 0x06#8, n :: _ => some (.readNotice p n)
  | 0x07#8, m :: _ => some (.subscribe p m)
  | 0x08#8, a :: b :: c :: _ => some (.snapshot p (a ++ b ++ c))
  | 0x09#8, _ => some (.readSnapshot p)
  | 0x20#8, r :: e :: _ => some (.claim p r e)
  | 0x21#8, r :: e :: _ => some (.release p r e)
  | 0x22#8, r :: _ => some (.withdraw p r)
  | 0x23#8, r :: e :: d :: _ => some (.move p r e d)
  | 0x24#8, r :: e :: _ => some (.dispense p r e)
  | 0x40#8, a1 :: a0 :: b1 :: b0 :: d1 :: d0 :: e1 :: e0 :: m :: n :: o :: s1 :: s0 :: _ =>
    some (.setTiming p ⟨joinHalf a1 a0, joinHalf b1 b0, joinHalf d1 d0, joinHalf e1 e0, m, n, o, joinHalf s1 s0⟩)
  | 0x41#8, e :: k :: g :: s :: t :: d :: v1 :: v0 :: w1 :: w0 :: _ =>
    some (.setElement p e ⟨k, g, s, t, d, joinHalf v1 v0, joinHalf w1 w0⟩)
  | 0x42#8, e :: ph :: rest => (profileArgs rest).map (.setProfile p e ph)
  | 0x43#8, r :: q :: a :: _ => some (.bind p r q a)
  | 0x44#8, r :: _ => some (.unbind p r)
  | 0x45#8, e :: l :: w1 :: w0 :: _ => some (.lineTest p e l (joinHalf w1 w0))
  | 0x50#8, _ => some (.arm p)
  | 0x51#8, _ => some (.disarm p)
  | 0x52#8, _ => some (.start p)
  | 0x53#8, _ => some (.halt p)
  | 0x54#8, _ => some (.resume p)
  | 0x55#8, _ => some (.abort p)
  | 0x56#8, _ => some (.finalise p)
  | 0x57#8, _ => some (.newMatch p)
  | 0x60#8, r :: q :: b :: _ => some (.penalty p r q b)
  | 0x61#8, a :: d1 :: d0 :: _ => some (.adjust p a (joinHalf d1 d0))
  | 0x62#8, e :: _ => some (.free p e)
  | 0x63#8, e :: _ => some (.rearm p e)
  | 0x64#8, e :: v1 :: v0 :: _ => some (.tune p e (joinHalf v1 v0))
  | 0x70#8, _ => some (.stageOpen p)
  | 0x71#8, e :: rest => (profileArgs rest).map (.stagePut p e)
  | 0x72#8, _ => some (.stageSeal p)
  | 0x73#8, _ => some (.stageDiscard p)
  | _, _ => none

/-- The command that the bytes a master has clocked in on a port of the given role spell, as soon as they spell
one: UNKNOWN or ROLE at the code byte (R163), the request at its last argument byte, counted as Table 9-7 gives (R164). `none` while the
frame has not reached that point. Bytes past it are ignored (R165). -/
def decodeFrame (role : Role) (p : Port) (bytes : List Byte) : Option Instr :=
  match bytes with
  | [] => none
  | code :: args =>
    match requestRow code with
    | none => some (.unknownAnswer p code)
    | some row =>
      if row.openTo role then
        if args.length < row.args then none else requestOf p code args
      else some (.roleAnswer p code)

/-- The frame of a command: the port it comes on and the bytes clocked in up to its effect point. `none` for
the events, which no frame carries. -/
def encodeFrame : Instr → Option (Port × List Byte)
  | .ping p => some (p, [0x01])
  | .readClock p => some (p, [0x02])
  | .readScores p => some (p, [0x03])
  | .readRobot p r => some (p, [0x04, r])
  | .readElement p e => some (p, [0x05, e])
  | .readNotice p n => some (p, [0x06, n])
  | .subscribe p m => some (p, [0x07, m])
  | .snapshot p m => some (p, 0x08 :: splitMask m)
  | .readSnapshot p => some (p, [0x09])
  | .claim p r e => some (p, [0x20, r, e])
  | .release p r e => some (p, [0x21, r, e])
  | .withdraw p r => some (p, [0x22, r])
  | .move p r e d => some (p, [0x23, r, e, d])
  | .dispense p r e => some (p, [0x24, r, e])
  | .setTiming p a => some (p, 0x40 :: (splitHalf a.autoS ++ splitHalf a.breakS ++ splitHalf a.driveS
      ++ splitHalf a.endgameS ++ [a.autoMul, a.driveMul, a.endgameMul] ++ splitHalf a.silence))
  | .setElement p e a => some (p, [0x41, e, a.kind, a.group, a.s0, a.s1, a.drive] ++ splitHalf a.value1
      ++ splitHalf a.value2)
  | .setProfile p e ph a => some (p, [0x42, e, ph] ++ profileBytes a)
  | .bind p r q a => some (p, [0x43, r, q, a])
  | .unbind p r => some (p, [0x44, r])
  | .lineTest p e l w => some (p, [0x45, e, l] ++ splitHalf w)
  | .arm p => some (p, [0x50])
  | .disarm p => some (p, [0x51])
  | .start p => some (p, [0x52])
  | .halt p => some (p, [0x53])
  | .resume p => some (p, [0x54])
  | .abort p => some (p, [0x55])
  | .finalise p => some (p, [0x56])
  | .newMatch p => some (p, [0x57])
  | .penalty p r q b => some (p, [0x60, r, q, b])
  | .adjust p a d => some (p, [0x61, a] ++ splitHalf d)
  | .free p e => some (p, [0x62, e])
  | .rearm p e => some (p, [0x63, e])
  | .tune p e v => some (p, [0x64, e] ++ splitHalf v)
  | .stageOpen p => some (p, [0x70])
  | .stagePut p e a => some (p, [0x71, e] ++ profileBytes a)
  | .stageSeal p => some (p, [0x72])
  | .stageDiscard p => some (p, [0x73])
  | .unknownAnswer p code => some (p, [code])
  | .roleAnswer p code => some (p, [code])
  | .hardwareReset _ _ _ => none
  | .tick _ _ => none
  | .autoExpiry => none
  | .breakExpiry => none
  | .endgameThreshold => none
  | .naturalFinish => none
  | .feedPendingStart _ => none
  | .benchExpiry _ => none
  | .silenceExpiry _ => none
  | .shotExpiry _ => none
  | .rateExpiry _ => none
  | .waveHalfChange _ => none
  | .strobeExpiry _ => none
  | .claimTimerExpiry _ => none
  | .senseChangeAccepted _ _ => none
  | .fieldStopAsserted _ => none
  | .fieldStopReleased _ => none
  | .gateArrival _ => none
  | .returnEnd _ => none
  | .selectReleased _ => none
  | .selectActive _ => none
  | .rstActive => none

/-- The command that a word spells by the table's bits: no row of spec/opcode_table.json gives bits
(notes/assumptions/22.md). -/
def decodeTableWord (_nbits _w : Nat) : Option Instr := none

end Sys2Proof
end

