-- ==== Sys2Proof/Config.lean ====
section
/-! DEFINITION. The fixed numbers of Table 0-5 and the two values that the manual leaves open. -/

namespace Sys2Proof

/-- Whether, at the n-th boundary event, the claim arbiter hands its notices to the notice block before
the roster hands its ROBOT notices of reason PHASE. R87: "the two groups may stand in either order relative to
each other". FREE VALUE, notes/assumptions/7.md: no body, so no proof can lean on an order. -/
opaque Config.arbiterFirst : Nat → Bool

/-- Whether the waiters of one list that a silence expiry drops are taken oldest first (R72) and not in slot order (R48,
R53), where the two differ. The arguments name the expiry: the boundary events so far, the remaining time in ms and the port.
The manual gives both orders and no ruling. FREE VALUE, notes/assumptions/27.md: no body, so no proof can lean on an order. -/
opaque Config.oldestFirst : Nat → Nat → Nat → Bool

/-- Wait list capacity (R61, R64). -/
def Config.waitCapacity : Nat := 4

/-- Entries of a notice queue at which the next record becomes an OVERFLOW entry (R179). -/
def Config.queueLast : Nat := 15

/-- Limit of an accumulator (R147). -/
def Config.accLimit : Int := 99999

/-- Limit of a published score (R147). -/
def Config.scoreLimit : Int := 9999

/-- Limit of the piece and orphan counters (R105, R106). -/
def Config.counterLimit : Nat := 65535

/-- Limit of a dispenser's shot count (Table 5-1). -/
def Config.shotLimit : Nat := 255

/-- Fixed filter time of a field stop line, in ms (R142). -/
def Config.stopFilter : Nat := 10

/-- Largest bench a PENALTY applies, in s (R46). -/
def Config.benchLimit : Nat := 120

/-- Largest sum of AUTO, BREAK and DRIVE lengths that ARM accepts, in s (R10). -/
def Config.matchLimit : Nat := 900

end Sys2Proof
end

