-- ==== Sys2Proof/Machine/State.lean ====
section
/-! DEFINITION. The state of the KA24 as plain data, block by block (Table 0-1), the ways a step can stop, and
the state after reset. -/

namespace Sys2Proof.Machine

/-! ## Phase clock (chapter 1) -/

/-- The nine match states (Table 1-1). -/
inductive MatchState where
  | setup | armed | auto | brk | drive | endgame | finished | closed | halted
  deriving DecidableEq, Repr

/-- The timed phases: the values of the halted-from phase and of the current phase (R1, R3). -/
inductive Phase where
  | auto | brk | drive | endgame
  deriving DecidableEq, Repr

/-- The live phases, each with a plan profile per element (R1, R23). -/
inductive LivePhase where
  | auto | drive | endgame
  deriving DecidableEq, Repr

/-- The phase clock (R3). -/
structure Clock where
  state : MatchState
  remaining : Nat
  haltedFrom : Option Phase
  aborted : Bool
  inPlay : AllianceSet
  deriving DecidableEq, Repr

/-- The timing record (Table 1-4): lengths in seconds, silence limit in milliseconds. -/
structure Timing where
  autoS : Nat
  breakS : Nat
  driveS : Nat
  endgameS : Nat
  autoMul : Nat
  driveMul : Nat
  endgameMul : Nat
  silence : Nat
  deriving DecidableEq, Repr

/-! ## Plan store (chapter 2) -/

/-- The kind of an element (Table 2-1). -/
inductive Kind where
  | none | gate | dispenser | goal | beacon
  deriving DecidableEq, Repr

/-- The edge choice of a sense input (Table 7-3). -/
inductive EdgeChoice where
  | active | release | any
  deriving DecidableEq, Repr

/-- The settings of one sense input (Table 2-1). -/
structure SenseSetting where
  activeLow : Bool
  filter : Nat
  edge : EdgeChoice
  deriving DecidableEq, Repr

/-- An element header (Table 2-1). -/
structure Header where
  kind : Kind
  group : Group
  s0 : SenseSetting
  s1 : SenseSetting
  d0Low : Bool
  d1Low : Bool
  motionLimit : Option Nat
  brakeTime : Option Nat
  releaseWidth : Option Nat
  lampWidth : Option Nat
  deriving DecidableEq, Repr

/-- The use of an element in a phase (Table 2-2). -/
inductive Use where
  | closed | claim | auto
  deriving DecidableEq, Repr

/-- The credit of a goal (Table 2-2). -/
inductive Credit where
  | fixed (a : Alliance)
  | holder
  deriving DecidableEq, Repr

/-- A phase profile: the use and the optional figures (Table 2-2). -/
structure Profile where
  use : Use
  mask : Option AllianceSet
  hold : Option Nat
  cooldown : Option Nat
  weight : Option Nat
  credit : Option Credit
  feedPeriod : Option Nat
  interval : Option Nat
  quota : Option Nat
  deriving DecidableEq, Repr

/-- The CLOSED profile with no other field (R23, R30). -/
def Profile.closed : Profile := ⟨.closed, none, none, none, none, none, none, none, none⟩

/-- The stage states (Table 2-4). -/
inductive StageState where
  | empty | opened | sealed
  deriving DecidableEq, Repr

/-- The stage: its state and at most one entry per element, in element order (R32). -/
structure Stage where
  state : StageState
  entries : Vector (Option Profile) 24
  deriving DecidableEq, Repr

/-! ## Roster (chapter 3) -/

/-- The standing of a robot (Table 3-1). -/
inductive Standing where
  | clear | benched | out
  deriving DecidableEq, Repr

/-- The link of a bridge port (R51). -/
inductive Link where
  | live | stale
  deriving DecidableEq, Repr

/-- A robot record (Table 3-1). `held` and `waiting` are the mirrors that the claim arbiter writes (R43, R61). -/
structure RobotRecord where
  bound : Option Port
  alliance : Option Alliance
  standing : Standing
  bench : Nat
  strikes : Nat
  held : Option Elem
  waiting : Option (Elem × Nat)
  deriving DecidableEq, Repr

/-! ## Claim arbiter (chapter 4) -/

/-- The causes of a block (Table 4-1). -/
inductive BlockCause where
  | field | jam
  deriving DecidableEq, Repr

/-- The claim states with the field that each one alone carries (Tables 4-1 and 4-2). -/
inductive ClaimState where
  | inert
  | free
  | held (r : Robot)
  | returning
  | blocked (c : BlockCause)
  deriving DecidableEq, Repr

/-- A claim record (Table 4-1). The wait list is in arrival order, oldest first (R61). -/
structure ClaimRecord where
  state : ClaimState
  lastAlliance : Option Alliance
  waiters : List Robot
  deriving DecidableEq, Repr

/-- A claim timer: stopped with count 0, or running (R129). -/
structure ClaimTimer where
  running : Bool
  count : Nat
  deriving DecidableEq, Repr

/-! ## Element engines (chapter 5) -/

/-- The motion states of a gate, BRAKING with its pending direction (Table 5-2). -/
inductive Motion where
  | unknown | atRest | movingOut | atOut | movingBack
  | braking (next : Direction)
  | stopped
  deriving DecidableEq, Repr

/-- For whom a gate moves (Table 5-1). -/
inductive Purpose where
  | none | holder | ret | home
  deriving DecidableEq, Repr

/-- The feed state of a dispenser (Table 5-1). -/
inductive FeedState where
  | stopped | running | held
  deriving DecidableEq, Repr

/-! ## Pulse units (chapter 6) -/

/-- The modes of a pulse unit (Table 6-2). -/
inductive Mode where
  | idle | shot | rate | wave | strobe
  deriving DecidableEq, Repr

/-- The half of a WAVE cycle (Table 6-1). -/
inductive WaveHalf where
  | first | second
  deriving DecidableEq, Repr

/-- A pulse unit (Table 6-1). Reload-pending is set when `pendingTune` holds the pending value with its tuned
mode. -/
structure PulseUnit where
  mode : Mode
  period : Nat
  count : Nat
  half : WaveHalf
  output : Bool
  run : Bool
  pendingTune : Option (Nat × Mode)
  deriving DecidableEq, Repr

/-! ## Line interface (chapter 7) -/

/-- A sense input: its filtered level (true for high) and the hold count of a pending change (R137). -/
structure SenseInput where
  high : Bool
  pending : Option Nat
  deriving DecidableEq, Repr

/-- A field stop line: its filtered state and the hold count of a pending change (R142). -/
structure FieldStop where
  asserted : Bool
  pending : Option Nat
  deriving DecidableEq, Repr

/-- Everything held for one element: its plan, claim record, claim timer, engine items, pulse unit, sense
inputs and the line of a LINE TEST under way. -/
structure Element where
  header : Header
  planAuto : Profile
  planDrive : Profile
  planEndgame : Profile
  claim : ClaimRecord
  timer : ClaimTimer
  motion : Motion
  purpose : Purpose
  shots : Nat
  quotaMark : Bool
  feed : FeedState
  feedPending : Bool
  pieces : Nat
  orphans : Nat
  pulse : PulseUnit
  s0 : SenseInput
  s1 : SenseInput
  test : Option Line
  deriving DecidableEq, Repr

/-! ## Ports, notices and snapshots (chapters 9 and 10) -/

/-- The states of a frame receiver (Table 9-2). -/
inductive Receiver where
  | idle | code | arguments | answer
  deriving DecidableEq, Repr

/-- A frame receiver (R160, R162, R165): its state; the bits of the byte under way, first bit first; the code byte and
the argument bytes taken in; the status byte and the answer bytes, fixed at the effect point; and how many of their bits
have been shifted out. -/
structure Frame where
  receiver : Receiver
  bits : List Bool
  bytes : List Byte
  answer : List Byte
  sent : Nat
  deriving DecidableEq, Repr

/-- A receiver outside a frame (R160, R162). -/
def Frame.idle : Frame := ⟨.idle, [], [], [], 0⟩
/-- A receiver in CODE before the first clock of a frame (R162). -/
def Frame.begun : Frame := ⟨.code, [], [], [], 0⟩
/-- A receiver in ANSWER before the first clock of its answer (R164, R165). -/
def Frame.answering (bytes : List Byte) : Frame := ⟨.answer, [], [], bytes, 0⟩

/-- A subscription mask (R160). -/
structure Subscription where
  score : Bool
  element : Bool
  stage : Bool
  deriving DecidableEq, Repr

/-- The notice kinds (Table 10-1). -/
inductive NoticeKind where
  | grant | lost | dropped | robot | phase | score | element | stage | overflow
  deriving DecidableEq, Repr

/-- The reasons of notices (Table 9-9); for SCORE the reason is an alliance (R154). -/
inductive Reason where
  | arm | disarm | start | time | halt | resume | abort | finalise | newMatch
  | released | expired | quota | benched | out | stale | freed | phase | field | jam
  | strike | cleared | live
  | blocked | rearmed | fieldStop | fieldClear
  | applied | void
  | alliance (a : Alliance)
  deriving DecidableEq, Repr

/-- A notice record (Table 10-1). -/
structure Notice where
  kind : NoticeKind
  reason : Option Reason
  robot : Option Robot
  element : Option Elem
  state : MatchState
  tenths : Nat
  value : Option Int
  deriving DecidableEq, Repr

/-- The fields of a valid snapshot entry (Table 9-10). `motion` is absent for a kind other than GATE (R174). -/
structure SnapData where
  claim : ClaimState
  waitCount : Nat
  motion : Option Motion
  mode : Mode
  count : Nat
  output : Bool
  reloadPending : Bool
  timer : Nat
  s0 : Bool
  s1 : Bool
  pieces : Nat
  deriving DecidableEq, Repr

/-- A snapshot entry: its element, and its fields unless it is VOID (R182, R183). -/
structure SnapEntry where
  element : Elem
  data : Option SnapData
  deriving DecidableEq, Repr

/-- Everything held for one port. `strap` is the role sampled at reset (read for P1 to P5 alone, see
`State.role`); `silence` and `link` are the roster's (R51; P0's are unused); `silenceDue` marks a silence
expiry that the last TICK raised and that is not yet taken (notes/assumptions/2.md). -/
structure PortRecord where
  frame : Frame
  strap : Role
  subscription : Subscription
  queue : List Notice
  snapshot : List SnapEntry
  silence : Nat
  link : Link
  silenceDue : Bool
  deriving DecidableEq, Repr

/-! ## The whole part -/

/-- The state of the KA24. `rst` is the level of RST (true while active); `boundaries` is the model's own count
of boundary events, an index of the free values `Config.arbiterFirst` and `Config.oldestFirst`; `pending` is the queue of commands. `clocks` holds
the serial clocks that the masters give and the part has not yet taken, each with its port and the level on data in
(notes/assumptions/28.md). -/
structure State where
  clock : Clock
  timing : Timing
  elements : Vector Element 24
  stage : Stage
  robots : Vector RobotRecord 16
  stops : Vector FieldStop 4
  accumulators : Vector Int 4
  published : Vector Int 4
  ports : Vector PortRecord 6
  rst : Bool
  boundaries : Nat
  pending : List Instr
  clocks : List (Port × Bool)
  deriving DecidableEq, Repr

/-- Faults: the KA24 has none. No rule of the manual stops the part, and no meaning of this model stops. -/
inductive Fault where
  deriving DecidableEq, Repr

/-- Refusals. -/
inductive Refusal where
  /-- Raised by an arm of `exec` whose command has no meaning yet, with its mnemonic: no arm raises it now.
  Safe: the model stops. -/
  | notModelled (mnemonic : String)
  deriving DecidableEq, Repr

/-! ## Reset -/

/-- The default timing record (Table 1-4). -/
def Timing.reset : Timing := ⟨15, 5, 120, 30, 2, 1, 1, 500⟩

/-- A sense setting after reset (R23). -/
def SenseSetting.reset : SenseSetting := ⟨false, 0, .active⟩

/-- An element header after reset (R23). -/
def Header.reset : Header := ⟨.none, 0, .reset, .reset, false, false, none, none, none, none⟩

/-- The values of a stopped pulse unit, which are also its reset values (R115, R116). -/
def PulseUnit.stopped : PulseUnit := ⟨.idle, 0, 0, .first, false, false, none⟩

/-- A stopped claim timer (R129). -/
def ClaimTimer.stopped : ClaimTimer := ⟨false, 0⟩

/-- An element after reset with the levels first sampled on its sense pins (R60, R88, R115, R129, R136). -/
def Element.reset (s0High s1High : Bool) : Element where
  header := .reset
  planAuto := .closed
  planDrive := .closed
  planEndgame := .closed
  claim := ⟨.inert, none, []⟩
  timer := .stopped
  motion := .unknown
  purpose := .none
  shots := 0
  quotaMark := false
  feed := .stopped
  feedPending := false
  pieces := 0
  orphans := 0
  pulse := .stopped
  s0 := ⟨s0High, none⟩
  s1 := ⟨s1High, none⟩
  test := none

/-- A robot record after reset and after NEW MATCH (R43). -/
def RobotRecord.reset : RobotRecord := ⟨none, none, .clear, 0, 0, none, none⟩

/-- An empty stage (R23). -/
def Stage.reset : Stage := ⟨.empty, Vector.replicate 24 none⟩

/-- A port after reset with the role its strap selects (R51, R160, R161, R179, R182). -/
def PortRecord.reset (role : Role) : PortRecord :=
  ⟨.idle, role, ⟨false, false, false⟩, [], [], 0, .live, false⟩

/-- The role a strap selects (R161): high for BRIDGE, low for PANEL. Position 0 is P0. -/
def strapRole (straps : BitVec 5) (p : Port) : Role :=
  if p = 0 then .referee else if straps.getLsbD (p.val - 1) then .bridge else .panel

/-- A vector from a list of indexes. -/
def tabulate {α : Type} (n : Nat) (f : Fin n → α) : Vector α n :=
  ⟨((List.finRange n).map f).toArray, by simp⟩

/-- The part right after the release of RST, with the levels sampled then: every block at its reset value. The
queue, the waiting clocks and the model's counter are carried over. -/
def State.afterReset (straps : BitVec 5) (sense : BitVec 48) (fs : BitVec 4) (boundaries : Nat)
    (queue : List Instr) (clocks : List (Port × Bool)) : State where
  clock := ⟨.setup, 0, none, false, 0⟩
  timing := .reset
  elements := tabulate 24 fun e => .reset (sense.getLsbD (2 * e.val)) (sense.getLsbD (2 * e.val + 1))
  stage := .reset
  robots := Vector.replicate 16 .reset
  stops := tabulate 4 fun g => ⟨!fs.getLsbD g.val, none⟩
  accumulators := Vector.replicate 4 0
  published := Vector.replicate 4 0
  ports := tabulate 6 fun p => .reset (strapRole straps p)
  rst := false
  boundaries := boundaries
  pending := queue
  clocks := clocks

/-- The machine right after reset. The sampled levels are the model's choice (notes/assumptions/6.md): the straps
of the arena of chapter 11 (P1 to P3 high, P4 and P5 low), every sense pin low, every field stop pin high (released). -/
def State.reset : State := .afterReset 0b00111#5 0#48 0b1111#4 0 [] []

end Sys2Proof.Machine
end

