-- ==== Sys2Proof/Machine/Ops.lean ====
section
/-! DEFINITION. The named operations over the state: reading and writing its records, the derived views that many
rules read (current phase, active profile, enabled flag, held and waiting elements), and the notice block's
routing and queues (R176 to R179). -/

namespace Sys2Proof.Machine

/-! ## Index lists and vectors -/

/-- E0 to E23 in order. -/
def allElems : List Elem := List.finRange 24
/-- Robots 0 to 15 in slot order. -/
def allRobots : List Robot := List.finRange 16
/-- P0 to P5. -/
def allPorts : List Port := List.finRange 6
/-- FS0 to FS3. -/
def allGroups : List Group := List.finRange 4
/-- Alliances 0 to 3. -/
def allAlliances : List Alliance := List.finRange 4

/-- Rewrite every entry of a vector, each with its index. -/
def rewriteAll {α β : Type} {n : Nat} (f : Fin n → α → β) (v : Vector α n) : Vector β n :=
  tabulate n fun i => f i (v.get i)

/-- Do an action for each index of a list, in order. -/
def State.forEach {ι : Type} (xs : List ι) (act : ι → State → State) (s : State) : State :=
  xs.foldl (fun s i => act i s) s

/-- An index from an argument byte, if it is in range. -/
def indexOf (n : Nat) (b : Byte) : Option (Fin n) :=
  if h : b.toNat < n then some ⟨b.toNat, h⟩ else none

/-- A value clamped into a range. -/
def clampNat (lo hi v : Nat) : Nat := max lo (min hi v)

/-- A signed value clamped into a range. -/
def clampInt (lo hi v : Int) : Int := max lo (min hi v)

/-! ## Records of the state -/

/-- The record of an element. -/
def State.element (s : State) (e : Elem) : Element := s.elements.get e
/-- The record of a robot. -/
def State.robot (s : State) (r : Robot) : RobotRecord := s.robots.get r
/-- The record of a port. -/
def State.port (s : State) (p : Port) : PortRecord := s.ports.get p
/-- The record of a field stop line. -/
def State.stop (s : State) (g : Group) : FieldStop := s.stops.get g

/-- Write the record of an element. -/
def State.setElement (e : Elem) (x : Element) (s : State) : State :=
  { s with elements := s.elements.set e.val x e.isLt }
/-- Write the record of a robot. -/
def State.setRobot (r : Robot) (x : RobotRecord) (s : State) : State :=
  { s with robots := s.robots.set r.val x r.isLt }
/-- Write the record of a port. -/
def State.setPort (p : Port) (x : PortRecord) (s : State) : State :=
  { s with ports := s.ports.set p.val x p.isLt }
/-- Write the record of a field stop line. -/
def State.setStop (g : Group) (x : FieldStop) (s : State) : State :=
  { s with stops := s.stops.set g.val x g.isLt }
/-- Write the phase clock. -/
def State.setClock (c : Clock) (s : State) : State := { s with clock := c }

/-- Rewrite the record of an element. -/
def State.modifyElement (e : Elem) (f : Element → Element) (s : State) : State := s.setElement e (f (s.element e))
/-- Rewrite the record of a robot. -/
def State.modifyRobot (r : Robot) (f : RobotRecord → RobotRecord) (s : State) : State := s.setRobot r (f (s.robot r))
/-- Rewrite the record of a port. -/
def State.modifyPort (p : Port) (f : PortRecord → PortRecord) (s : State) : State := s.setPort p (f (s.port p))

/-- The claim record of an element. -/
def State.claim (s : State) (e : Elem) : ClaimRecord := (s.element e).claim

/-- The role of a port: P0 is always REFEREE (R161). -/
def State.role (s : State) (p : Port) : Role := if p = 0 then .referee else (s.port p).strap

/-- Whether a port is a bridge port. -/
def State.isBridge (s : State) (p : Port) : Bool := s.role p = .bridge

/-! ## Phases (R1) -/

/-- The phase that a match state is, if it is a timed one. -/
def MatchState.phase : MatchState → Option Phase
  | .auto => some .auto
  | .brk => some .brk
  | .drive => some .drive
  | .endgame => some .endgame
  | .setup | .armed | .finished | .closed | .halted => none

/-- The match state of a phase. -/
def Phase.state : Phase → MatchState
  | .auto => .auto
  | .brk => .brk
  | .drive => .drive
  | .endgame => .endgame

/-- The live phase that a phase is, if it is one. -/
def Phase.live : Phase → Option LivePhase
  | .auto => some .auto
  | .brk => none
  | .drive => some .drive
  | .endgame => some .endgame

/-- The match state of a live phase. -/
def LivePhase.state : LivePhase → MatchState
  | .auto => .auto
  | .drive => .drive
  | .endgame => .endgame

/-- Whether a match state is a live phase: AUTO, DRIVE or ENDGAME (R1). -/
def MatchState.isLive : MatchState → Bool
  | .auto | .drive | .endgame => true
  | .setup | .armed | .brk | .finished | .closed | .halted => false

/-- Whether a match state is running: a live phase or BREAK (Table 1-1). -/
def MatchState.isRunning : MatchState → Bool
  | .auto | .brk | .drive | .endgame => true
  | .setup | .armed | .finished | .closed | .halted => false

/-- The current phase (R1). -/
def Clock.currentPhase (c : Clock) : Option Phase :=
  match c.state with
  | .halted => c.haltedFrom
  | other => other.phase

/-- The current phase where it is a live one, HALTED from a live phase included (R30). -/
def Clock.currentLive (c : Clock) : Option LivePhase := c.currentPhase.bind Phase.live

/-- The multiplier of a live phase (Table 1-4). -/
def Timing.multiplier (t : Timing) : LivePhase → Nat
  | .auto => t.autoMul
  | .drive => t.driveMul
  | .endgame => t.endgameMul

/-- The current multiplier (R1). -/
def State.currentMultiplier (s : State) : Option Nat := s.clock.currentLive.map s.timing.multiplier

/-- The remaining time in tenths of a second, rounded down (R22). -/
def Clock.tenths (c : Clock) : Nat := c.remaining / 100

/-! ## Active profile (R30) -/

/-- The plan profile of an element for a live phase. -/
def Element.plan (x : Element) : LivePhase → Profile
  | .auto => x.planAuto
  | .drive => x.planDrive
  | .endgame => x.planEndgame

/-- Overwrite the plan profile of an element for a live phase. -/
def Element.setPlan (x : Element) (ph : LivePhase) (p : Profile) : Element :=
  match ph with
  | .auto => { x with planAuto := p }
  | .drive => { x with planDrive := p }
  | .endgame => { x with planEndgame := p }

/-- The active profile of an element under a clock (R30). -/
def Element.activeProfile (c : Clock) (x : Element) : Profile :=
  match c.currentLive with
  | some ph => x.plan ph
  | none => .closed

/-- The active profile of an element (R30). -/
def State.activeProfile (s : State) (e : Elem) : Profile := (s.element e).activeProfile s.clock

/-- Whether a profile's mask holds an alliance. -/
def Profile.allows (p : Profile) (a : Option Alliance) : Bool :=
  match a with
  | some a => (p.mask.getD 0).getLsbD a.val
  | none => false

/-- The cooldown of a profile, 0 where it carries none (R73). -/
def Profile.cooldownMs (p : Profile) : Nat := p.cooldown.getD 0

/-- The hold limit of a profile in seconds. -/
def Profile.holdS (p : Profile) : Nat := p.hold.getD 0

/-! ## Sense levels -/

/-- A sense input of an element. -/
def Element.sense (x : Element) : SenseId → SenseInput
  | .s0 => x.s0
  | .s1 => x.s1

/-- The header's settings for a sense input. -/
def Header.sense (h : Header) : SenseId → SenseSetting
  | .s0 => h.s0
  | .s1 => h.s1

/-- Write a sense input of an element. -/
def Element.setSense (x : Element) (i : SenseId) (v : SenseInput) : Element :=
  match i with
  | .s0 => { x with s0 := v }
  | .s1 => { x with s1 := v }

/-- Whether a sense input is active: its filtered level read through its polarity (R138). -/
def Element.senseActive (x : Element) (i : SenseId) : Bool :=
  if (x.header.sense i).activeLow then !(x.sense i).high else (x.sense i).high

/-! ## Roster views -/

/-- Whether a robot is bound (R43). -/
def State.isBound (s : State) (r : Robot) : Bool := (s.robot r).bound.isSome

/-- The link of a robot: the link of the port it is bound to (R51). -/
def State.robotLink (s : State) (r : Robot) : Option Link := (s.robot r).bound.map fun p => (s.port p).link

/-- The enabled flag (R56). -/
def State.enabled (s : State) (r : Robot) : Bool :=
  (s.robot r).standing = .clear && s.robotLink r = some .live && s.clock.state.isLive

/-! ## Claim table views -/

/-- The element that a robot holds, read from the claim table. -/
def State.heldBy (s : State) (r : Robot) : Option Elem :=
  allElems.find? fun e => (s.claim e).state = .held r

/-- The arrival position of a robot in a wait list, from 1 (R61). -/
def positionIn (r : Robot) (ws : List Robot) : Option Nat :=
  match ws with
  | [] => none
  | w :: rest => if w = r then some 1 else (positionIn r rest).map (· + 1)

/-- The element that a robot waits on and its position, read from the claim table. -/
def State.waitOf (s : State) (r : Robot) : Option (Elem × Nat) :=
  allElems.findSome? fun e => (positionIn r (s.claim e).waiters).map fun k => (e, k)

/-- Write the held and waiting mirrors of every robot record from the claim table (R43, R61). -/
def State.mirror (s : State) : State :=
  { s with robots := rewriteAll (fun r x => { x with held := s.heldBy r, waiting := s.waitOf r }) s.robots }

/-- Write a claim record, and with it the mirrors, "in the same step as the change" (R61). -/
def State.setClaim (e : Elem) (c : ClaimRecord) (s : State) : State :=
  (s.modifyElement e fun x => { x with claim := c }).mirror

/-! ## Notices (chapter 10) -/

/-- A notice record with the match state and remaining time of the present moment (R176). -/
def State.notice (s : State) (kind : NoticeKind) (reason : Option Reason) (robot : Option Robot)
    (element : Option Elem) (value : Option Int) : Notice :=
  ⟨kind, reason, robot, element, s.clock.state, s.clock.tenths, value⟩

/-- Whether a record is due to a port (R177). -/
def State.routes (s : State) (n : Notice) (p : Port) : Bool :=
  match n.kind with
  | .grant | .lost | .dropped | .robot =>
    match n.robot with
    | some r => (s.robot r).bound = some p
    | none => false
  | .phase => true
  | .score => (s.port p).subscription.score
  | .element => p = 0 || (s.port p).subscription.element
  | .stage => p = 0 || (s.port p).subscription.stage
  | .overflow => false

/-- Whether a queued entry is an unread SCORE entry for the alliance of a SCORE record (R154). -/
def Notice.coalesces (n entry : Notice) : Bool :=
  n.kind = .score && entry.kind = .score && entry.reason = n.reason

/-- The OVERFLOW entry that stands in a record's place (R179). -/
def Notice.overflow (n : Notice) : Notice := ⟨.overflow, none, none, none, n.state, n.tenths, none⟩

/-- Enter a record due to a port in its queue (R154, R179, Table 10-3). -/
def enqueue (q : List Notice) (n : Notice) : List Notice :=
  if q.any n.coalesces then
    q.map fun entry => if n.coalesces entry then n else entry
  else if q.any fun entry => entry.kind = .overflow then q
  else if q.length < Config.queueLast then q ++ [n]
  else q ++ [n.overflow]

/-- Hand a record to the notice block: it enters the queue of each port it is due to (R176, R177). -/
def State.hand (n : Notice) (s : State) : State :=
  let entered : Port → PortRecord → PortRecord := fun p x =>
    if s.routes n p then { x with queue := enqueue x.queue n } else x
  { s with ports := rewriteAll entered s.ports }

/-- Make a record and hand it to the notice block. -/
def State.raise (kind : NoticeKind) (reason : Option Reason) (robot : Option Robot) (element : Option Elem)
    (value : Option Int) (s : State) : State :=
  s.hand (s.notice kind reason robot element value)

/-- A flag as a notice value or an answer field (Table 9-6). -/
def flagValue (b : Bool) : Int := if b then 1 else 0

/-- Raise a ROBOT notice: its value is the enabled flag after the event (R57). -/
def State.raiseRobot (reason : Reason) (r : Robot) (s : State) : State :=
  s.raise .robot (some reason) (some r) none (some (flagValue (s.enabled r)))

end Sys2Proof.Machine
end

