-- ==== Sys2Proof/Machine/Layout.lean ====
section
/-! DEFINITION. The byte layouts of section 9.5: field codes (Table 9-6), notice entries (Tables 9-8 and 9-9) and
snapshot entries (Table 9-10). Bytes go most significant first (R171). -/

namespace Sys2Proof.Machine

/-- One byte. -/
def byte (n : Nat) : Byte := BitVec.ofNat 8 n
/-- Two bytes. -/
def bytes2 (n : Nat) : List Byte := [byte (n / 256), byte n]
/-- Three bytes. -/
def bytes3 (n : Nat) : List Byte := [byte (n / 65536), byte (n / 256), byte n]
/-- A signed value in two bytes, two's complement. -/
def signed2 (v : Int) : List Byte := bytes2 (BitVec.ofInt 16 v).toNat
/-- A signed value in four bytes, two's complement. -/
def signed4 (v : Int) : List Byte :=
  let w := (BitVec.ofInt 32 v).toNat
  bytes2 (w / 65536) ++ bytes2 w

/-- The code of an absent robot, element, alliance, link, phase or direction (R171). -/
def absent : Byte := 0xFF

/-- A field of the absent-0xFF kind. -/
def orAbsent {α : Type} (code : α → Byte) (v : Option α) : Byte :=
  match v with
  | some x => code x
  | none => absent

/-- A flag (Table 9-6). -/
def flagByte (b : Bool) : Byte := if b then 1 else 0

/-- An index as a byte. -/
def indexByte {n : Nat} (i : Fin n) : Byte := byte i.val

def MatchState.code : MatchState → Nat
  | .setup => 0
  | .armed => 1
  | .auto => 2
  | .brk => 3
  | .drive => 4
  | .endgame => 5
  | .finished => 6
  | .closed => 7
  | .halted => 8

def roleCode : Role → Nat
  | .referee => 0
  | .bridge => 1
  | .panel => 2

def Kind.code : Kind → Nat
  | .none => 0
  | .gate => 1
  | .dispenser => 2
  | .goal => 3
  | .beacon => 4

def EdgeChoice.code : EdgeChoice → Nat
  | .active => 0
  | .release => 1
  | .any => 2

/-- A sense setting byte: polarity in bit 7, edge choice in bits 5 and 4, filter time in bits 3 to 0. -/
def SenseSetting.code (x : SenseSetting) : Nat :=
  (if x.activeLow then 128 else 0) + 16 * x.edge.code + x.filter % 16

/-- A drive polarity byte. -/
def Header.driveCode (h : Header) : Nat := (if h.d0Low then 1 else 0) + (if h.d1Low then 2 else 0)

def Use.code : Use → Nat
  | .closed => 0
  | .claim => 1
  | .auto => 2

def Credit.code : Credit → Nat
  | .fixed a => a.val
  | .holder => 16

def LivePhase.code : LivePhase → Nat
  | .auto => 2
  | .drive => 4
  | .endgame => 5

def directionCode : Direction → Nat
  | .out => 0
  | .back => 1

def ClaimState.code : ClaimState → Nat
  | .inert => 0
  | .free => 1
  | .held _ => 2
  | .returning => 3
  | .blocked _ => 4

/-- The holder, present in HELD only (Table 4-1). -/
def ClaimState.holder : ClaimState → Option Robot
  | .held r => some r
  | .inert | .free | .returning | .blocked _ => none

def BlockCause.code : BlockCause → Nat
  | .field => 1
  | .jam => 2

/-- The block cause field, 0 for none. -/
def ClaimState.causeCode : ClaimState → Nat
  | .blocked c => c.code
  | .inert | .free | .held _ | .returning => 0

def Motion.code : Motion → Nat
  | .unknown => 0
  | .atRest => 1
  | .movingOut => 2
  | .atOut => 3
  | .movingBack => 4
  | .braking _ => 5
  | .stopped => 6

/-- The pending direction, present in BRAKING only (R172). -/
def Motion.pending : Motion → Option Direction
  | .braking d => some d
  | .unknown | .atRest | .movingOut | .atOut | .movingBack | .stopped => none

/-- The motion state field: 7 for an element that is not a gate. -/
def motionCode (m : Option Motion) : Nat :=
  match m with
  | some m => m.code
  | none => 7

/-- The motion state of an element, for a gate (R114, R174). -/
def Element.gateMotion (x : Element) : Option Motion := if x.header.kind = .gate then some x.motion else none

def Standing.code : Standing → Nat
  | .clear => 0
  | .benched => 1
  | .out => 2

def Link.code : Link → Nat
  | .live => 0
  | .stale => 1

def FeedState.code : FeedState → Nat
  | .stopped => 0
  | .running => 1
  | .held => 2

def Mode.code : Mode → Nat
  | .idle => 0
  | .shot => 1
  | .rate => 2
  | .wave => 3
  | .strobe => 4

/-- A subscription mask byte. -/
def Subscription.code (x : Subscription) : Nat :=
  (if x.score then 1 else 0) + (if x.element then 2 else 0) + (if x.stage then 4 else 0)

def NoticeKind.code : NoticeKind → Nat
  | .grant => 1
  | .lost => 2
  | .dropped => 3
  | .robot => 4
  | .phase => 5
  | .score => 6
  | .element => 7
  | .stage => 8
  | .overflow => 9

def Reason.code : Reason → Nat
  | .arm => 0x01
  | .disarm => 0x02
  | .start => 0x03
  | .time => 0x04
  | .halt => 0x05
  | .resume => 0x06
  | .abort => 0x07
  | .finalise => 0x08
  | .newMatch => 0x09
  | .released => 0x10
  | .expired => 0x11
  | .quota => 0x12
  | .benched => 0x13
  | .out => 0x14
  | .stale => 0x15
  | .freed => 0x16
  | .phase => 0x17
  | .field => 0x18
  | .jam => 0x19
  | .strike => 0x20
  | .cleared => 0x21
  | .live => 0x22
  | .blocked => 0x30
  | .rearmed => 0x31
  | .fieldStop => 0x32
  | .fieldClear => 0x33
  | .applied => 0x40
  | .void => 0x41
  | .alliance a => a.val

/-- A notice entry (Table 9-8, R173). -/
def Notice.bytes (n : Notice) : List Byte :=
  let present := if n.value.isSome then 32768 else 0
  [byte (n.kind.code * 16 + n.state.code),
   byte ((n.reason.map Reason.code).getD 0),
   orAbsent indexByte n.robot,
   orAbsent indexByte n.element]
  ++ bytes2 (present + n.tenths % 16384)
  ++ signed2 (n.value.getD 0)

/-- A snapshot entry (Table 9-10, R174). -/
def SnapEntry.bytes (x : SnapEntry) : List Byte :=
  match x.data with
  | none => byte (128 + x.element.val) :: List.replicate 11 0
  | some d =>
    [indexByte x.element,
     byte (16 * d.waitCount + d.claim.code),
     orAbsent indexByte d.claim.holder,
     byte ((if d.s1 then 128 else 0) + (if d.s0 then 64 else 0) + motionCode d.motion),
     byte ((if d.reloadPending then 32 else 0) + (if d.output then 16 else 0) + d.mode.code)]
    ++ bytes2 d.count ++ bytes3 d.timer ++ bytes2 d.pieces

/-- A stored header as SET ELEMENT returns it, element number first (Table 9-7). Kind values that are not stored
read 0. -/
def Header.bytes (e : Elem) (h : Header) : List Byte :=
  let values : Nat × Nat :=
    match h.kind with
    | .gate => (h.motionLimit.getD 0, h.brakeTime.getD 0)
    | .dispenser => (h.releaseWidth.getD 0, 0)
    | .goal => (h.lampWidth.getD 0, 0)
    | .none | .beacon => (0, 0)
  [indexByte e, byte h.kind.code, indexByte h.group, byte h.s0.code, byte h.s1.code, byte h.driveCode]
    ++ bytes2 values.1 ++ bytes2 values.2

/-- A stored profile as SET PROFILE returns it, element and phase first (Table 9-7); absent fields read 0x00 and an
absent credit 0xFF. -/
def Profile.bytes (e : Elem) (ph : LivePhase) (p : Profile) : List Byte :=
  [indexByte e, byte ph.code, byte p.use.code, byte ((p.mask.getD 0).toNat), byte (p.hold.getD 0)]
    ++ bytes2 (p.cooldown.getD 0)
    ++ [byte (p.weight.getD 0), orAbsent (fun c => byte c.code) p.credit]
    ++ bytes2 (p.feedPeriod.getD 0) ++ bytes2 (p.interval.getD 0) ++ [byte (p.quota.getD 0)]

/-- A timing record as SET TIMING returns it (Table 9-7). -/
def Timing.bytes (t : Timing) : List Byte :=
  bytes2 t.autoS ++ bytes2 t.breakS ++ bytes2 t.driveS ++ bytes2 t.endgameS
    ++ [byte t.autoMul, byte t.driveMul, byte t.endgameMul] ++ bytes2 t.silence

/-! ## Status codes (Table 9-5) -/

/-- The status of an answer. -/
inductive Status where
  | ok | granted | queued | already
  | unknown | role | badArg | phase | notYours | notEnabled | notOpen | blocked | oneHeld | oneWait | listFull
  | busy | empty | notHolder | pending | stageState | planInvalid | fieldActive | notReady | noRobots
  deriving DecidableEq, Repr

/-- The status byte. -/
def Status.code : Status → Byte
  | .ok => 0x00
  | .granted => 0x01
  | .queued => 0x02
  | .already => 0x03
  | .unknown => 0x80
  | .role => 0x81
  | .badArg => 0x82
  | .phase => 0x83
  | .notYours => 0x84
  | .notEnabled => 0x85
  | .notOpen => 0x86
  | .blocked => 0x87
  | .oneHeld => 0x88
  | .oneWait => 0x89
  | .listFull => 0x8A
  | .busy => 0x8B
  | .empty => 0x8C
  | .notHolder => 0x8D
  | .pending => 0x8E
  | .stageState => 0x8F
  | .planInvalid => 0x90
  | .fieldActive => 0x91
  | .notReady => 0x92
  | .noRobots => 0x93

end Sys2Proof.Machine
end

