-- ==== Sys2Proof/Machine/Units.lean ====
section
/-! DEFINITION. Pulse units and claim timers (chapter 6): the commands a unit takes, its counting at a tick and
its mode rules at count 0; the loading and counting of a claim timer. -/

namespace Sys2Proof.Machine

/-! ## Pulse units -/

/-- A stop: IDLE with every item at its stopped value, the pending value cleared (R116). -/
def PulseUnit.stop (_u : PulseUnit) : PulseUnit := .stopped

/-- The pending value if its tuned mode is the given one. -/
def PulseUnit.tunedTo (u : PulseUnit) (m : Mode) : Option Nat :=
  match u.pendingTune with
  | some (v, tuned) => if tuned = m then some v else none
  | none => none

/-- The pending value that a start in a mode leaves waiting: a start in another mode than the tuned one clears
it (R127). -/
def PulseUnit.keptTune (u : PulseUnit) (m : Mode) : Option (Nat × Mode) :=
  (u.tunedTo m).map fun v => (v, m)

/-- A trigger of SHOT with period `n` (R118, R119); a pending value tuned in SHOT is loaded instead of the period
and is then gone (R126). -/
def PulseUnit.trigger (n : Nat) (u : PulseUnit) : PulseUnit :=
  { u with mode := .shot, period := n, count := (u.tunedTo .shot).getD n, output := true, run := true,
           pendingTune := none }

/-- The trigger of a LINE TEST: the named width is loaded and a pending value is cleared (R140). -/
def PulseUnit.testTrigger (n : Nat) (u : PulseUnit) : PulseUnit :=
  { u with mode := .shot, period := n, count := n, output := true, run := true, pendingTune := none }

/-- A start of RATE (R120). -/
def PulseUnit.startRate (n : Nat) (u : PulseUnit) : PulseUnit :=
  { u with mode := .rate, period := n, count := n, output := false, run := true, pendingTune := u.keptTune .rate }

/-- A start of WAVE (R121): the FIRST half is loaded with the period halved and rounded up. -/
def PulseUnit.startWave (n : Nat) (u : PulseUnit) : PulseUnit :=
  { u with mode := .wave, period := n, count := (n + 1) / 2, half := .first, output := true, run := true,
           pendingTune := u.keptTune .wave }

/-- A start of STROBE (R123). -/
def PulseUnit.startStrobe (n : Nat) (u : PulseUnit) : PulseUnit :=
  { u with mode := .strobe, period := n, count := n, output := false, run := true, pendingTune := none }

/-- A hold given to a unit running WAVE (R122). -/
def PulseUnit.hold (u : PulseUnit) : PulseUnit :=
  if u.mode = .wave && u.run then { u with run := false, output := false } else u

/-- A continue given to a held WAVE (R122). -/
def PulseUnit.continueWave (u : PulseUnit) : PulseUnit :=
  if u.mode = .wave && !u.run then { u with run := true, output := u.half = .first } else u

/-- The counting of a unit at a tick (R117), with the end of the one-tick output of RATE and STROBE (R120, R123). -/
def PulseUnit.tick (u : PulseUnit) : PulseUnit :=
  if !u.run then u else
  match u.mode with
  | .idle => u
  | .shot | .wave => { u with count := u.count - 1 }
  | .rate => { u with count := u.count - 1, output := false }
  | .strobe =>
    if u.output then { u with mode := .idle, output := false, run := false } else { u with count := u.count - 1 }

/-- The end of a SHOT at count 0 (R118): the period and any pending value are kept. -/
def PulseUnit.shotEnd (u : PulseUnit) : PulseUnit := { u with mode := .idle, output := false, run := false }

/-- The reload of RATE at count 0 (R120); a pending value becomes the period (R126). -/
def PulseUnit.rateReload (u : PulseUnit) : PulseUnit :=
  match u.tunedTo .rate with
  | some v => { u with period := v, count := v, output := true, pendingTune := none }
  | none => { u with count := u.period, output := true }

/-- The change of half of WAVE at count 0 (R121); at the active-going transition a pending value becomes the
period (R126). The output stays inactive while the run flag is clear (R122). -/
def PulseUnit.waveChange (u : PulseUnit) : PulseUnit :=
  match u.half with
  | .first => { u with half := .second, count := u.period / 2, output := false }
  | .second =>
    match u.tunedTo .wave with
    | some v => { u with half := .first, period := v, count := (v + 1) / 2, output := u.run, pendingTune := none }
    | none => { u with half := .first, count := (u.period + 1) / 2, output := u.run }

/-- The output of STROBE at count 0 (R123). -/
def PulseUnit.strobeFire (u : PulseUnit) : PulseUnit := { u with output := true }

/-- Whether a SHOT has reached count 0 and its end is to be taken. -/
def PulseUnit.shotDue (u : PulseUnit) : Bool := u.mode = .shot && u.count = 0
/-- Whether a RATE has reached count 0 and its reload is to be taken. -/
def PulseUnit.rateDue (u : PulseUnit) : Bool := u.mode = .rate && u.count = 0
/-- Whether a WAVE has reached count 0 and its change of half is to be taken. -/
def PulseUnit.waveDue (u : PulseUnit) : Bool := u.mode = .wave && u.count = 0
/-- Whether a STROBE has reached count 0 and its expiry is to be taken. -/
def PulseUnit.strobeDue (u : PulseUnit) : Bool := u.mode = .strobe && u.count = 0 && !u.output

/-- A command of the element's engine to its unit; it ends a LINE TEST that runs on it (R141). -/
def Element.drivePulse (f : PulseUnit → PulseUnit) (x : Element) : Element :=
  { x with pulse := f x.pulse, test := none }

/-! ## Claim timers -/

/-- Load a claim timer with a count, or stop it for 0 (R130, R131). -/
def ClaimTimer.load (n : Nat) : ClaimTimer := if n = 0 then .stopped else ⟨true, n⟩

/-- The counting of a claim timer at a tick (R129). -/
def ClaimTimer.tick (t : ClaimTimer) : ClaimTimer := if t.running then { t with count := t.count - 1 } else t

/-- The cooldown that the ending of a claim loads (R131). `late` says that the ending came before the tick that brought the
timer to 0, so that the tick then lowers the new count, or finds the timer stopped (R133). -/
def ClaimTimer.cool (late : Bool) (n : Nat) : ClaimTimer := if late then (ClaimTimer.load n).tick else .load n

/-- Whether a running claim timer has reached 0 and its expiry is to be taken (R132). -/
def ClaimTimer.due (t : ClaimTimer) : Bool := t.running && t.count = 0

/-! ## Sense and field stop filters -/

/-- The pending change of a filter after one sample (R137): `differs` says whether the sample differs from the
filtered level, `filter` is the filter time. A hold count of 0 is an accepted change, still to be taken. -/
def filterStep (differs : Bool) (filter : Nat) (pending : Option Nat) : Option Nat :=
  if differs then
    match pending with
    | none => some filter
    | some k => some (k - 1)
  else none

/-- One sample of a sense input (R135, R137). -/
def SenseInput.take (filter : Nat) (sample : Bool) (x : SenseInput) : SenseInput :=
  { x with pending := filterStep (sample != x.high) filter x.pending }

/-- One sample of a field stop line; a low sample is the asserted level (R142). -/
def FieldStop.take (sampleHigh : Bool) (x : FieldStop) : FieldStop :=
  { x with pending := filterStep (sampleHigh == x.asserted) Config.stopFilter x.pending }

/-- Whether a filter holds an accepted change still to be taken (R137). -/
def acceptedDue (pending : Option Nat) : Bool := pending = some 0

end Sys2Proof.Machine
end

