-- ==== Sys2Proof/Machine/Arbiter.lean ====
section
/-! DEFINITION. The claim arbiter's shared steps (sections 4.4 to 4.6): dropping waiters, blocking, granting and
settling the end of RETURNING, with what the engine does when it is told of a grant or of the end of a claim. -/

namespace Sys2Proof.Machine

/-- The causes that end a claim (Table 4-3). -/
inductive Cause where
  | released | expired | quota | benched | out | stale | freed | phase | field | jam
  deriving DecidableEq, Repr

/-- The reason code of a cause (Table 9-9). -/
def Cause.reason : Cause → Reason
  | .released => .released
  | .expired => .expired
  | .quota => .quota
  | .benched => .benched
  | .out => .out
  | .stale => .stale
  | .freed => .freed
  | .phase => .phase
  | .field => .field
  | .jam => .jam

/-- The cause that a block is. -/
def BlockCause.cause : BlockCause → Cause
  | .field => .field
  | .jam => .jam

/-- Raise a DROPPED notice for each waiter that is not kept, oldest first, each with its position in the list as
it stood (R72). -/
def State.raiseDrops (e : Elem) (reason : Reason) (keep : Robot → Bool) : Nat → List Robot → State → State
  | _, [], s => s
  | k, r :: rest, s =>
    State.raiseDrops e reason keep (k + 1) rest
      (if keep r then s else s.raise .dropped (some reason) (some r) (some e) (some (k : Int)))

/-- Drop from a wait list every robot that is not kept (R72). -/
def State.dropWaiters (e : Elem) (reason : Reason) (keep : Robot → Bool) (s : State) : State :=
  let c := s.claim e
  (s.setClaim e { c with waiters := c.waiters.filter keep }).raiseDrops e reason keep 1 c.waiters

/-- Drop a whole wait list (R72). -/
def State.dropAll (e : Elem) (reason : Reason) (s : State) : State := s.dropWaiters e reason fun _ => false

/-- Drop one robot from a wait list, with the position it held in the list as it stood before the event (R72). -/
def State.dropWaiter (e : Elem) (r : Robot) (reason : Reason) (position : Nat) (s : State) : State :=
  let c := s.claim e
  (s.setClaim e { c with waiters := c.waiters.filter (· ≠ r) }).raise .dropped (some reason) (some r) (some e)
    (some (position : Int))

/-- Write the claim timer of an element. -/
def State.setTimer (e : Elem) (t : ClaimTimer) (s : State) : State := s.modifyElement e fun x => { x with timer := t }

/-- Write the claim state of an element. -/
def State.setClaimState (e : Elem) (c : ClaimState) (s : State) : State := s.setClaim e { s.claim e with state := c }

/-- An element enters BLOCKED (R80): waiters dropped, timer stopped, state set, one ELEMENT notice. -/
def State.enterBlocked (e : Elem) (cause : BlockCause) (s : State) : State :=
  let s := s.dropAll e cause.cause.reason
  let s := s.setTimer e .stopped
  let s := s.setClaimState e (.blocked cause)
  s.raise .element (some .blocked) none (some e) (some (cause.code : Int))

/-- What an engine does when it is told that a claim has ended, apart from a gate's return (R101, R108). -/
def Element.claimEnded (x : Element) : Element :=
  match x.header.kind with
  | .dispenser => { x with shots := 0, quotaMark := false }
  | .beacon => x.drivePulse PulseUnit.stop
  | .none | .gate | .goal => x

/-- The first part of R68: the holder is removed, the last-holder alliance recorded, the LOST notice raised and
the engine told. The element is left RETURNING for the caller to go on with. -/
def State.removeHolder (e : Elem) (r : Robot) (cause : Cause) (s : State) : State :=
  let c := s.claim e
  let s := s.setClaim e { c with state := .returning, lastAlliance := (s.robot r).alliance }
  let s := s.raise .lost (some cause.reason) (some r) (some e) none
  s.modifyElement e Element.claimEnded

/-- A FIELD or JAM cause is taken by the claim state it finds (R79). -/
def State.takeBlock (e : Elem) (cause : BlockCause) (s : State) : State :=
  match (s.claim e).state with
  | .held r => (s.removeHolder e r cause.cause).enterBlocked e cause
  | .inert | .free | .returning => s.enterBlocked e cause
  | .blocked _ => s.setClaimState e (.blocked cause)

/-- What an engine does when it is told of a grant (R101, R108). -/
def Element.granted (active : Profile) (x : Element) : Element :=
  match x.header.kind with
  | .dispenser => { x with shots := 0, quotaMark := false }
  | .beacon => x.drivePulse (PulseUnit.startRate (active.interval.getD 0))
  | .none | .gate | .goal => x

/-- An element becomes HELD: the robot leaves the wait list if it stands there, and the claim timer takes the
hold limit (R63, R77, R130). -/
def State.makeHolder (e : Elem) (r : Robot) (s : State) : State :=
  let c := s.claim e
  let active := s.activeProfile e
  let s := s.setClaim e { c with state := .held r, waiters := c.waiters.filter (· ≠ r) }
  s.setTimer e (.load (active.holdS * 1000))

/-- The engine is told of a grant. -/
def State.tellGrant (e : Elem) (s : State) : State := s.modifyElement e (Element.granted (s.activeProfile e))

/-- The grant at the end of RETURNING (R77). -/
def State.grantWaiter (e : Elem) (r : Robot) (s : State) : State :=
  let hold := (s.activeProfile e).holdS
  let s := s.makeHolder e r
  let s := s.raise .grant none (some r) (some e) (some (hold : Int))
  s.tellGrant e

/-- The precedence key of a waiter (R76). -/
def State.precedence (s : State) (e : Elem) (r : Robot) (position : Nat) : Nat × Nat × Nat :=
  let last := (s.claim e).lastAlliance
  (if last.isSome && (s.robot r).alliance = last then 1 else 0, (s.robot r).strikes, position)

/-- Whether a key goes before another: the lowest wins, value by value (R76). -/
def keyBefore (a b : Nat × Nat × Nat) : Bool :=
  a.1 < b.1 || (a.1 = b.1 && (a.2.1 < b.2.1 || (a.2.1 = b.2.1 && a.2.2 < b.2.2)))

/-- The waiter with the lowest key, from a position on (R76). -/
def State.bestOf (s : State) (e : Elem) (k : Nat) (best : Robot × Nat) : List Robot → Robot
  | [] => best.1
  | r :: rest =>
    if keyBefore (s.precedence e r k) (s.precedence e best.1 best.2) then s.bestOf e (k + 1) (r, k) rest
    else s.bestOf e (k + 1) best rest

/-- The next holder chosen from a wait list (R76). -/
def State.nextHolder (s : State) (e : Elem) : Option Robot :=
  match (s.claim e).waiters with
  | [] => none
  | r :: rest => some (s.bestOf e 2 (r, 1) rest)

/-- The end of RETURNING (R75). -/
def State.settleReturn (e : Elem) (s : State) : State :=
  if (s.activeProfile e).use = .claim then
    match s.nextHolder e with
    | none => (s.setClaimState e .free).setTimer e .stopped
    | some r => s.grantWaiter e r
  else
    ((s.dropAll e .phase).setClaimState e .inert).setTimer e .stopped

/-- Whether the end of RETURNING is to be taken: a gate stands AT_REST, any other kind's cooldown has run out
(R73). -/
def Element.returnDue (x : Element) : Bool :=
  x.claim.state = .returning &&
    match x.header.kind with
    | .gate => x.motion = .atRest
    | .none | .dispenser | .goal | .beacon => !x.timer.running

/-- End RETURNING in the same step, where it needs no time (R73). -/
def State.finishReturn (e : Elem) (s : State) : State :=
  if (s.element e).returnDue then s.settleReturn e else s

end Sys2Proof.Machine
end

