-- ==== Sys2Proof/Machine/Tally.lean ====
section
/-! DEFINITION. The score tally (chapter 8): the one saturating operation, credits and shares. -/

namespace Sys2Proof.Machine

/-- The published score of an accumulator (R148). -/
def publishedOf (a : Int) : Int := clampInt 0 Config.scoreLimit a

/-- Add a signed amount to the accumulator of an alliance, clamp it, recompute the published score, and raise a
SCORE notice if that changed (R148, R154). -/
def State.addScore (a : Alliance) (amount : Int) (s : State) : State :=
  let total := clampInt (-Config.accLimit) Config.accLimit (s.accumulators.get a + amount)
  let score := publishedOf total
  let s' := { s with accumulators := s.accumulators.set a.val total a.isLt,
                     published := s.published.set a.val score a.isLt }
  if score = s.published.get a then s' else s'.raise .score (some (.alliance a)) none none (some score)

/-- A credit of weight `w` under the current multiplier, while a live phase runs (R149). -/
def State.credit (a : Alliance) (w : Nat) (s : State) : State :=
  if s.clock.state.isLive then s.addScore a ((w * s.currentMultiplier.getD 0 : Nat) : Int) else s

/-- The alliances in play, as a list in order. -/
def State.playing (s : State) : List Alliance := allAlliances.filter fun a => s.clock.inPlay.getLsbD a.val

/-- The total T of the published scores of the alliances in play (R155). -/
def State.scoreTotal (s : State) : Int := (s.playing.map fun a => s.published.get a).sum

/-- The share of an alliance (R155). -/
def State.share (s : State) (a : Alliance) : Int :=
  if s.clock.inPlay.getLsbD a.val && 0 < s.scoreTotal then (100 * s.published.get a) / s.scoreTotal else 0

/-- The ZERO flag (R155). -/
def State.zeroFlag (s : State) : Bool := s.scoreTotal ≤ 0

end Sys2Proof.Machine
end

