-- ==== Sys2Proof/Machine/Engines.lean ====
section
/-! DEFINITION. The element engines (chapter 5): gate motions, dispenser feeds, goal pieces, beacon credits and the
field stop, with the entry into RETURNING and the common ending of a claim that need them (R68, R73). -/

namespace Sys2Proof.Machine

/-! ## Gates (section 5.2) -/

/-- The target limit of a direction (R90): S1 for OUT, S0 for BACK. -/
def limitOf : Direction → SenseId
  | .out => .s1
  | .back => .s0

/-- The motion state that drives toward a direction. -/
def movingOf : Direction → Motion
  | .out => .movingOut
  | .back => .movingBack

/-- The motion state that a direction arrives at. -/
def arrivedOf : Direction → Motion
  | .out => .atOut
  | .back => .atRest

/-- Whether both limits are active (R95). -/
def Element.bothLimits (x : Element) : Bool := x.senseActive .s0 && x.senseActive .s1

/-- Whether a motion state is one in which both limits active is a jam (R95). -/
def Motion.jamChecked : Motion → Bool
  | .atRest | .atOut | .movingOut | .movingBack | .braking _ => true
  | .unknown | .stopped => false

/-- The direction a gate is moving in. -/
def Motion.moving : Motion → Option Direction
  | .movingOut => some .out
  | .movingBack => some .back
  | .unknown | .atRest | .atOut | .braking _ | .stopped => none

/-- A gate stops where it is: STOPPED, purpose none, pulse unit stopped (R95, R99). -/
def Element.halted (x : Element) : Element :=
  { x.drivePulse PulseUnit.stop with motion := .stopped, purpose := .none }

/-- A gate jams (R95): it stops, and the arbiter takes the JAM cause (R79). -/
def State.jam (e : Elem) (s : State) : State := (s.modifyElement e Element.halted).takeBlock e .jam

/-- A gate arrives (R93): drives off, unit stopped, AT_OUT or AT_REST, purpose none. The end of a return is taken by
the caller (`finishReturn`). -/
def Element.arrive (d : Direction) (x : Element) : Element :=
  { x.drivePulse PulseUnit.stop with motion := arrivedOf d, purpose := .none }

/-- A gate starts to drive (R90): SHOT with the motion limit. -/
def Element.drive (d : Direction) (purpose : Purpose) (x : Element) : Element :=
  { x.drivePulse (PulseUnit.trigger (x.header.motionLimit.getD 0)) with motion := movingOf d, purpose := purpose }

/-- The start of a motion (R90), with the jam check of R95 before the target check. -/
def State.startMotion (e : Elem) (d : Direction) (purpose : Purpose) (s : State) : State :=
  let x := s.element e
  if x.bothLimits then s.jam e
  else if x.senseActive (limitOf d) then s.modifyElement e (Element.arrive d)
  else s.modifyElement e (Element.drive d purpose)

/-- A reversal (R92): the shot is stopped and the brake is timed by STROBE. -/
def Element.reverse (next : Direction) (purpose : Purpose) (x : Element) : Element :=
  { x.drivePulse (fun u => u.stop.startStrobe (x.header.brakeTime.getD 0)) with
      motion := .braking next, purpose := purpose }

/-- A gate begins a return (R96).
MODEL'S CHOICE (notes/assumptions/31.md): R96 says that "the purpose becomes RETURN" and that from AT_REST the return ends at
once, and does not say what the purpose is after that end. The model leaves it none, as R93 does where a return ends by
arrival. -/
def State.beginReturn (e : Elem) (s : State) : State :=
  match (s.element e).motion with
  | .atRest => s.modifyElement e fun x => { x with purpose := .none }
  | .atOut | .unknown | .stopped => s.startMotion e .back .ret
  | .movingBack => s.modifyElement e fun x => { x with purpose := .ret }
  | .movingOut => s.modifyElement e (Element.reverse .back .ret)
  | .braking _ => s.modifyElement e fun x => { x with motion := .braking .back, purpose := .ret }

/-! ## The ending of a claim (R68, R73) -/

/-- The entry into RETURNING with a timer for the cooldown (R73, R131): a gate's timer is stopped and its return begun, any
other kind's timer is written. A return that needs no time is ended by the caller with `finishReturn`. -/
def State.enterReturning (e : Elem) (cooldown : ClaimTimer) (s : State) : State :=
  let s := s.setClaimState e .returning
  match (s.element e).header.kind with
  | .gate => (s.setTimer e .stopped).beginReturn e
  | .none | .dispenser | .goal | .beacon => s.setTimer e cooldown

/-- Whether an ending of a claim can come before the tick of its claim timer (R133): RELEASE, FREE, roster removal and QUOTA.
EXPIRED is that tick's own, FIELD and JAM stop the timer, and R133 says nothing of PHASE (notes/assumptions/12.md). -/
def Cause.beforeTick : Cause → Bool
  | .released | .freed | .quota | .benched | .out | .stale => true
  | .expired | .phase | .field | .jam => false

/-- Whether an ending takes a claim whose timer has reached 0 before the timer's expiry is taken (R133). -/
def State.endsBeforeTick (s : State) (e : Elem) (cause : Cause) : Bool := cause.beforeTick && (s.element e).timer.due

/-- A claim ends for a cause other than FIELD and JAM, up to the entry into RETURNING (R68), with the cooldown that R131
and R133 give (notes/assumptions/12.md). -/
def State.leaveHolder (e : Elem) (r : Robot) (cause : Cause) (s : State) : State :=
  let late := s.endsBeforeTick e cause
  let s := s.removeHolder e r cause
  s.enterReturning e (.cool late (s.activeProfile e).cooldownMs)

/-- The common ending of a claim for a cause other than FIELD and JAM (R68), with the end of a return that needs no
time (R73). An element that is not HELD has no claim to end (R69, R70). -/
def State.endClaim (e : Elem) (cause : Cause) (s : State) : State :=
  match (s.claim e).state with
  | .held r => (s.leaveHolder e r cause).finishReturn e
  | .inert | .free | .returning | .blocked _ => s

/-- The removal of a robot from the claim table by the roster (R71), up to the entry into RETURNING: a return that needs
no time is ended by the caller. `before` is the state that the event found: a DROPPED notice carries the position in the
list "as it stood before the event" (R72), whichever robots the event has dropped already. -/
def State.unseat (r : Robot) (cause : Cause) (s before : State) : State :=
  match s.heldBy r with
  | some e => s.leaveHolder e r cause
  | none =>
    match s.waitOf r with
    | some (e, now) => s.dropWaiter e r cause.reason ((before.waitOf r).elim now Prod.snd)
    | none => s

/-- The removal of one robot from the claim table by the roster, with the end of a return that needs no time (R71,
R73). -/
def State.removeRobot (r : Robot) (cause : Cause) (s : State) : State :=
  match s.heldBy r with
  | some e => (s.unseat r cause s).finishReturn e
  | none => s.unseat r cause s

/-! ## Dispensers (section 5.3) -/

/-- Whether the conditions of a feed hold (R103): active use AUTO in a live phase or HALTED from one, which is
when the active profile can be AUTO, and the element not BLOCKED. -/
def State.feedAllowed (s : State) (e : Elem) : Bool :=
  (s.element e).header.kind = .dispenser && (s.activeProfile e).use = .auto &&
    match (s.claim e).state with
    | .blocked _ => false
    | .inert | .free | .held _ | .returning => true

/-- The start of a feed (R103, R104): WAVE with the feed period, held at once while S1 is active. -/
def Element.startFeed (active : Profile) (x : Element) : Element :=
  let x := x.drivePulse (PulseUnit.startWave (active.feedPeriod.getD 0))
  if x.senseActive .s1 then { x with pulse := x.pulse.hold, feed := .held, feedPending := false }
  else { x with feed := .running, feedPending := false }

/-- The stop of a feed (R103): the unit is stopped if the feed is running or held; the feed pending mark is cleared. -/
def Element.stopFeed (x : Element) : Element :=
  match x.feed with
  | .stopped => { x with feedPending := false }
  | .running | .held => { x.drivePulse PulseUnit.stop with feed := .stopped, feedPending := false }

/-- A feed comes to be allowed (R103): it is started afresh, or waits for the release shot in progress. -/
def Element.openFeed (active : Profile) (x : Element) : Element :=
  match x.feed with
  | .running | .held => x.stopFeed.startFeed active
  | .stopped => if x.pulse.mode = .shot then { x with feedPending := true } else x.startFeed active

/-- Whether a feed waits for a release shot that has ended (R103). -/
def Element.feedDue (x : Element) : Bool :=
  x.header.kind = .dispenser && x.feedPending && x.pulse.mode ≠ .shot

/-- The end of the wait: the mark is cleared and the feed starts if its conditions still hold (R103). -/
def State.startPendingFeed (e : Elem) (s : State) : State :=
  if s.feedAllowed e then s.modifyElement e (Element.startFeed (s.activeProfile e))
  else s.modifyElement e fun x => { x with feedPending := false }

/-- The dispenser engine at a boundary (R103, R112). -/
def State.feedAtBoundary (e : Elem) (s : State) : State :=
  if (s.element e).header.kind = .dispenser then
    if s.feedAllowed e then s.modifyElement e (Element.openFeed (s.activeProfile e))
    else s.modifyElement e Element.stopFeed
  else s

/-! ## Pieces (section 5.4) -/

/-- A counter that saturates at 65535 (R105, R106). -/
def countUp (n : Nat) : Nat := min Config.counterLimit (n + 1)

/-- The credit or orphan of a counted goal piece (R106). -/
def State.creditPiece (e : Elem) (s : State) : State :=
  let active := s.activeProfile e
  let w := active.weight.getD 0
  if s.clock.state.isLive then
    match active.use with
    | .auto =>
      match active.credit with
      | some (.fixed a) => s.credit a w
      | some .holder | none => s
    | .claim =>
      match (s.claim e).state with
      | .held r =>
        match (s.robot r).alliance with
        | some a => s.credit a w
        | none => s
      | .inert | .free | .returning | .blocked _ =>
        s.modifyElement e fun x => { x with orphans := countUp x.orphans }
    | .closed => s
  else s

/-- Whether a claim state is BLOCKED. -/
def ClaimState.isBlocked : ClaimState → Bool
  | .blocked _ => true
  | .inert | .free | .held _ | .returning => false

/-- The lamp of a goal at a counted piece (R107): not in HALTED, not while BLOCKED, not during a LINE TEST. -/
def State.lightLamp (e : Elem) (s : State) : State :=
  let x := s.element e
  let width := x.header.lampWidth.getD 0
  if 0 < width && s.clock.state ≠ .halted && !x.claim.state.isBlocked && x.test.isNone then
    s.modifyElement e fun x => { x with pulse := x.pulse.trigger width }
  else s

/-- An S0 edge event of a dispenser or a goal (R105 to R107). -/
def State.takePiece (e : Elem) (s : State) : State :=
  match (s.element e).header.kind with
  | .dispenser => s.modifyElement e fun x => { x with pieces := countUp x.pieces }
  | .goal => ((s.modifyElement e fun x => { x with pieces := countUp x.pieces }).creditPiece e).lightLamp e
  | .none | .gate | .beacon => s

/-! ## Beacons (section 5.5) -/

/-- The credit of a full interval held (R109). -/
def State.creditInterval (e : Elem) (s : State) : State :=
  match (s.element e).header.kind, (s.claim e).state with
  | .beacon, .held r =>
    match (s.robot r).alliance with
    | some a => s.credit a ((s.activeProfile e).weight.getD 0)
    | none => s
  | _, _ => s

/-! ## Sense events (R138) -/

/-- Whether a change to the given activity matches an edge choice (Table 7-3). -/
def EdgeChoice.marks (c : EdgeChoice) (nowActive : Bool) : Bool :=
  match c with
  | .active => nowActive
  | .release => !nowActive
  | .any => true

/-- An accepted change of a sense input, taken by the element's engine (R137, R138). A gate's arrival is a step of
its own (GATE_ARRIVAL), taken after the jam check of this one. -/
def State.acceptSense (e : Elem) (i : SenseId) (s : State) : State :=
  let s := s.modifyElement e fun x => x.setSense i ⟨!(x.sense i).high, none⟩
  let x := s.element e
  let nowActive := x.senseActive i
  match x.header.kind with
  | .gate => if x.motion.jamChecked && x.bothLimits then s.jam e else s
  | .dispenser =>
    match i with
    | .s0 => if x.header.s0.edge.marks nowActive then s.takePiece e else s
    | .s1 =>
      match x.feed, nowActive with
      | .running, true => s.modifyElement e fun x => { x with pulse := x.pulse.hold, feed := .held }
      | .held, false => s.modifyElement e fun x => { x with pulse := x.pulse.continueWave, feed := .running }
      | _, _ => s
  | .goal =>
    match i with
    | .s0 => if x.header.s0.edge.marks nowActive then s.takePiece e else s
    | .s1 => s
  | .none | .beacon => s

/-- Whether a moving gate's target limit is active, so that its arrival is to be taken (R93). -/
def Element.arrivalDue (x : Element) : Bool :=
  x.header.kind = .gate &&
    match x.motion.moving with
    | some d => x.senseActive (limitOf d)
    | none => false

/-- The arrival of a moving gate, which ends a return whole (R93). -/
def State.takeArrival (e : Elem) (s : State) : State :=
  match (s.element e).motion.moving with
  | some d => (s.modifyElement e (Element.arrive d)).finishReturn e
  | none => s

/-! ## Field stops (R99, R110, R141, R143) -/

/-- A LINE TEST under way is ended by the line interface, which stops the unit (R141). -/
def Element.endTest (x : Element) : Element := if x.test.isSome then x.drivePulse PulseUnit.stop else x

/-- The field stop is taken by an element's engine (R99, R110). -/
def Element.fieldStop (x : Element) : Element :=
  match x.header.kind with
  | .none => x
  | .gate => x.halted
  | .dispenser => { x.drivePulse PulseUnit.stop with feed := .stopped, feedPending := false }
  | .goal | .beacon => x.drivePulse PulseUnit.stop

/-- A field stop reaches one element of its group (R143, point 3). -/
def State.stopElement (e : Elem) (s : State) : State :=
  let s := s.modifyElement e Element.endTest
  if (s.element e).header.kind = .none then s
  else (s.modifyElement e Element.fieldStop).takeBlock e .field

/-! ## Pulse unit expiries -/

/-- The end of the brake (R94): the motion toward the pending direction starts with the present purpose. -/
def State.brakeEnd (e : Elem) (s : State) : State :=
  match (s.element e).motion with
  | .braking d => (s.startMotion e d (s.element e).purpose).finishReturn e
  | .unknown | .atRest | .movingOut | .atOut | .movingBack | .stopped => s

/-- The end of a SHOT (R118): the expiry goes to the line interface during a LINE TEST (R141), else to the engine,
for which it is a jam of a moving gate (R95), the end of a release shot (R101) or of a lamp shot (R107). -/
def State.shotExpiry (e : Elem) (s : State) : State :=
  let tested := (s.element e).test.isSome
  let s := s.modifyElement e fun x => { x with pulse := x.pulse.shotEnd, test := none }
  let x := s.element e
  if tested then s
  else match x.header.kind with
  | .gate => if x.motion.moving.isSome then s.jam e else s
  | .dispenser =>
    if x.quotaMark then (s.modifyElement e fun x => { x with quotaMark := false }).endClaim e .quota else s
  | .none | .goal | .beacon => s

/-- The expiry of a RATE (R120), taken by the beacon's engine as a credit (R109). -/
def State.rateExpiry (e : Elem) (s : State) : State :=
  (s.modifyElement e fun x => { x with pulse := x.pulse.rateReload }).creditInterval e

/-- The change of half of a WAVE (R121). -/
def State.waveChange (e : Elem) (s : State) : State :=
  s.modifyElement e fun x => { x with pulse := x.pulse.waveChange }

/-- The expiry of a STROBE (R123), which for a gate is the end of its brake (R94). -/
def State.strobeExpiry (e : Elem) (s : State) : State :=
  let s := s.modifyElement e fun x => { x with pulse := x.pulse.strobeFire }
  if (s.element e).header.kind = .gate then s.brakeEnd e else s

/-- The expiry of a claim timer (R132): EXPIRED ends a claim, and in RETURNING the expiry is the end of RETURNING, settled
in the same step (R133: "the timer's tick is taken as one event with the expiry it raises"). -/
def State.timerExpiry (e : Elem) (s : State) : State :=
  let s := s.setTimer e .stopped
  match (s.claim e).state with
  | .held _ => s.endClaim e .expired
  | .returning => s.finishReturn e
  | .inert | .free | .blocked _ => s

/-! ## The end of RETURNING as a command (R75) -/

/-- Whether RETURNING is at its end: the cooldown has run out, or the gate stands or arrives at rest (R73). -/
def Element.returnEnds (x : Element) : Bool :=
  x.claim.state = .returning &&
    match x.header.kind with
    | .gate => x.motion = .atRest || (x.motion = .movingBack && x.arrivalDue)
    | .none | .dispenser | .goal | .beacon => !x.timer.running || x.timer.count = 0

/-- The end of RETURNING with the arrival or the expiry that brings it (R75, R93, R132; notes/assumptions/19.md). -/
def State.takeReturnEnd (e : Elem) (s : State) : State :=
  let x := s.element e
  if x.arrivalDue then s.takeArrival e
  else if x.timer.due then s.timerExpiry e
  else s.settleReturn e

end Sys2Proof.Machine
end

