-- ==== Sys2Proof/Machine/Flags.lean ====
section
/-! DEFINITION. Outputs and flags that are functions of the state: drive requests, drive lines and pins (R89, R139),
attention outputs (R181), data out (R165), homing (R88). -/

namespace Sys2Proof.Machine

/-- The request of an element's engine for a drive line (R89). -/
def Element.engineRequest (x : Element) (l : Line) : Bool :=
  match x.header.kind, l with
  | .gate, .d0 => x.motion = .movingOut
  | .gate, .d1 => x.motion = .movingBack
  | .dispenser, .d0 => x.pulse.output
  | .goal, .d0 => x.pulse.output
  | .beacon, .d0 =>
    match x.claim.state with
    | .held _ => true
    | .inert | .free | .returning | .blocked _ => false
  | .none, _ => false
  | .dispenser, .d1 => false
  | .goal, .d1 => false
  | .beacon, .d1 => false

/-- The request of a drive line: during a LINE TEST the named line follows the unit's output and the other is
inactive, else the engine's request holds (R139). -/
def Element.lineRequest (x : Element) (l : Line) : Bool :=
  match x.test with
  | some t => t = l && x.pulse.output
  | none => x.engineRequest l

/-- Whether a forcing applies to the drive lines of an element (R139, R160): its group's field stop, HALTED, or RST
active. -/
def State.forced (s : State) (e : Elem) : Bool :=
  (s.stop (s.element e).header.group).asserted || s.clock.state = .halted || s.rst

/-- Whether a drive line is active (R139). -/
def State.driveActive (s : State) (e : Elem) (l : Line) : Bool := !s.forced e && (s.element e).lineRequest l

/-- The polarity of a drive line (Table 2-1). -/
def Header.lineLow (h : Header) : Line → Bool
  | .d0 => h.d0Low
  | .d1 => h.d1Low

/-- The level of a drive pin, true for high (R139). While RST is active every line has polarity active high. -/
def State.drivePin (s : State) (e : Elem) (l : Line) : Bool :=
  if s.rst then false else s.driveActive e l != (s.element e).header.lineLow l

/-- The attention output of a port (R181). -/
def State.attention (s : State) (p : Port) : Bool := !(s.port p).queue.isEmpty

/-- An answer byte by its number, the status byte first: 0x00 after the last one (R165). -/
def Frame.answerByte (f : Frame) (k : Nat) : Byte := f.answer.getD k 0

/-- The level on data out at the next clock, true for high (R162, R165, Table 9-2): not driven outside a frame, 0x00 while
the request comes in, then the answer, most significant bit first. -/
def Frame.dataOut (f : Frame) : Option Bool :=
  match f.receiver with
  | .idle => none
  | .code | .arguments => some false
  | .answer => some ((f.answerByte (f.sent / 8)).getMsbD (f.sent % 8))

/-- Whether a gate is homing (R88). -/
def Element.homing (x : Element) : Bool := x.header.kind = .gate && x.purpose = .home

/-- Whether any gate is homing (R13). -/
def State.anyHoming (s : State) : Bool := allElems.any fun e => (s.element e).homing

/-- The snapshot entry that latches an element (R182, Table 9-10). -/
def State.latch (s : State) (e : Elem) : SnapEntry :=
  let x := s.element e
  ⟨e, some ⟨x.claim.state, x.claim.waiters.length, x.gateMotion, x.pulse.mode, x.pulse.count, x.pulse.output,
    x.pulse.pendingTune.isSome, x.timer.count, x.senseActive .s0, x.senseActive .s1, x.pieces⟩⟩

/-- The latched fields of an entry become VOID (R183). -/
def SnapEntry.void (x : SnapEntry) : SnapEntry := { x with data := none }

/-- Every port's entry for an element becomes VOID (R183). -/
def State.voidSnapshots (e : Elem) (s : State) : State :=
  let voided : Port → PortRecord → PortRecord := fun _ x =>
    { x with snapshot := x.snapshot.map fun y => if y.element = e then y.void else y }
  { s with ports := rewriteAll voided s.ports }

end Sys2Proof.Machine
end

