-- ==== Sys2Proof/Machine/Match.lean ====
section
/-! DEFINITION. What the blocks do on the phase clock's events: boundaries (R5, R31, R37 to R41, R55, R58, R83, R84,
R103), halt and resume, arm, disarm and new match; with the roster's timers and the standing of robots. -/

namespace Sys2Proof.Machine

/-! ## Transitions -/

/-- Raise the PHASE notice of a transition: its value is the state left (R7). -/
def State.raisePhase (reason : Reason) (left : MatchState) (s : State) : State :=
  s.raise .phase (some reason) none none (some (left.code : Int))

/-- The clock makes a transition and raises its PHASE notice, ahead of what other blocks raise (R7). -/
def State.transition (reason : Reason) (c : Clock) (s : State) : State :=
  (s.setClock c).raisePhase reason s.clock.state

/-! ## Roster (chapter 3) -/

/-- Raise a ROBOT notice of reason PHASE for each bound robot whose enabled flag differs from the one before, in slot
order (R58). -/
def State.announceEnables (s before : State) : State :=
  s.forEach allRobots fun r s =>
    if s.isBound r && before.enabled r != s.enabled r then s.raiseRobot .phase r else s

/-- Reload the silence timers of the bridge ports at a boundary into a live phase (R55). -/
def State.reloadSilence (s : State) : State :=
  let reloaded : Port → PortRecord → PortRecord := fun p x =>
    if s.isBridge p then { x with silence := s.timing.silence } else x
  { s with ports := rewriteAll reloaded s.ports }

/-- The robots bound to a port, in slot order. -/
def State.boundTo (s : State) (p : Port) : List Robot := allRobots.filter fun r => (s.robot r).bound = some p

/-- The robots of a port in slot order, but those that wait on one element changed about among themselves, so that of them
the oldest comes first (R72). -/
def State.agedOrder (p : Port) (s : State) : List Robot :=
  let slots := s.boundTo p
  slots.map fun r =>
    match s.waitOf r with
    | some (e, _) =>
      let aged := (s.claim e).waiters.filter (· ∈ slots)
      aged.getD ((slots.filter (· ∈ aged)).idxOf r) r
    | none => r

/-- The order in which a silence expiry takes the robots of a port: slot order (R48, R53), in which the waiters of one list
are dropped "oldest first" (R72). Where no order is both, which of the two rules gives way is free
(notes/assumptions/27.md). -/
def State.silenceOrder (p : Port) (s : State) : List Robot :=
  if s.agedOrder p = s.boundTo p then s.boundTo p
  else if Config.oldestFirst s.boundaries s.clock.remaining p.val then s.agedOrder p
  else s.boundTo p

/-- A bridge port's link becomes STALE (R53): for each robot bound to it, in an order, a ROBOT notice, then the removal of
its claim or wait (R48). Each DROPPED notice carries the position in the list as it stood before the event (R72).
MODEL'S CHOICE (notes/assumptions/26.md): R73 ends a return that needs no time in the same step, R48 removes the robots
one by one, and R77 grants to a robot on a LIVE link alone; so the returns that this event begins and that need no time
end when every robot of the port has been removed, in the slot order of their holders. -/
def State.silenceIn (order : List Robot) (p : Port) (s : State) : State :=
  let before := s
  let s := s.modifyPort p fun x => { x with link := .stale, silenceDue := false }
  let vacated := (s.boundTo p).filterMap s.heldBy
  (s.forEach order fun r s => (s.raiseRobot .stale r).unseat r .stale before).forEach vacated State.finishReturn

/-- A silence timer has reached 0 (R53). -/
def State.silenceExpiry (p : Port) (s : State) : State := s.silenceIn (s.silenceOrder p) p

/-- A bench timer has reached 0 (R50). -/
def State.benchExpiry (r : Robot) (s : State) : State :=
  (s.modifyRobot r fun x => { x with standing := .clear }).raiseRobot .cleared r

/-- Whether a bench expiry is to be taken: the robot is BENCHED with no bench left (R50). -/
def State.benchDue (s : State) (r : Robot) : Bool := (s.robot r).standing = .benched && (s.robot r).bench = 0

/-- Whether a silence expiry is to be taken. -/
def State.silenceDue (s : State) (p : Port) : Bool := (s.port p).silenceDue

/-- Take every outstanding silence expiry, in port order. -/
def State.takeSilences (s : State) : State :=
  s.forEach allPorts fun p s => if s.silenceDue p then s.silenceExpiry p else s

/-! ## Stage at match events (section 2.7) -/

/-- The stage entries, with their elements, in element order. -/
def Stage.listed (st : Stage) : List (Elem × Profile) :=
  allElems.filterMap fun e => (st.entries.get e).map fun p => (e, p)

/-- The number of stage entries. -/
def Stage.count (st : Stage) : Nat := st.listed.length

/-- A SEALED stage is applied at a boundary into a live phase (R37, R38, R41). -/
def State.applyStage (ph : LivePhase) (s : State) : State :=
  match s.stage.state with
  | .sealed =>
    let n := s.stage.count
    let s := s.forEach s.stage.listed fun entry s => s.modifyElement entry.1 fun x => x.setPlan ph entry.2
    ({ s with stage := .reset }).raise .stage (some .applied) none none (some (n : Int))
  | .empty | .opened => s

/-- An OPEN or SEALED stage is voided at a boundary into FINISHED and at the disarm event (R40, R41). -/
def State.voidStage (s : State) : State :=
  match s.stage.state with
  | .empty => s
  | .opened | .sealed =>
    ({ s with stage := .reset }).raise .stage (some .void) none none (some (s.stage.count : Int))

/-! ## Claims at boundaries (section 4.7) -/

/-- A robot's alliance is in the mask of a CLAIM profile. -/
def State.mayUse (s : State) (active : Profile) (r : Robot) : Bool :=
  active.use = .claim && active.allows (s.robot r).alliance

/-- The arbiter takes one element at a boundary into a live phase (R83, Table 4-5). The wait list is filtered before a
return that needs no time ends (notes/assumptions/10.md). -/
def State.claimAtLive (e : Elem) (s : State) : State :=
  let s := s.setClaim e { s.claim e with lastAlliance := none }
  let active := s.activeProfile e
  let keep := s.mayUse active
  match (s.claim e).state with
  | .blocked _ => s
  | .held r =>
    if keep r then (s.setTimer e (.load (active.holdS * 1000))).dropWaiters e .phase keep
    else ((s.leaveHolder e r .phase).dropWaiters e .phase keep).finishReturn e
  | .returning => s.dropWaiters e .phase keep
  | .free | .inert => s.setClaimState e (if active.use = .claim then .free else .inert)

/-- The arbiter takes one element at a boundary into BREAK or FINISHED (R84). -/
def State.claimAtStop (e : Elem) (s : State) : State :=
  match (s.claim e).state with
  | .blocked _ | .inert => s
  | .held r => ((s.leaveHolder e r .phase).dropAll e .phase).finishReturn e
  | .returning => s.dropAll e .phase
  | .free => s.setClaimState e .inert

/-- The arbiter takes a boundary: the elements in order E0 to E23 (R83, R84). -/
def State.claimsAtBoundary (s : State) : State :=
  if s.clock.state.isLive then s.forEach allElems State.claimAtLive else s.forEach allElems State.claimAtStop

/-! ## The boundary event (R5, R31) -/

/-- The live phase that a match state is. -/
def MatchState.live (m : MatchState) : Option LivePhase := m.phase.bind Phase.live

/-- The plan store takes a boundary: a sealed stage is applied at a live phase, any stage is voided at FINISHED, and
nothing is done at BREAK (R37, R38, R40). -/
def State.stageAtBoundary (s : State) : State :=
  match s.clock.state.live with
  | some ph => s.applyStage ph
  | none => if s.clock.state = .finished then s.voidStage else s

/-- The snapshot entries of each element whose active profile changes become VOID (R31, R183). -/
def State.voidChanged (s before : State) : State :=
  s.forEach allElems fun e s => if before.activeProfile e = s.activeProfile e then s else s.voidSnapshots e

/-- Roster and arbiter take the boundary. Which of the two hands its notices first is free (R87,
notes/assumptions/7.md): the queues follow the free value, nothing else depends on it. -/
def State.rosterAndArbiter (s before : State) : State :=
  let rosterFirst := (s.announceEnables before).claimsAtBoundary
  let arbiterFirst := s.claimsAtBoundary.announceEnables before
  { rosterFirst with
      ports := if Config.arbiterFirst s.boundaries then arbiterFirst.ports else rosterFirst.ports
      boundaries := s.boundaries + 1 }

/-- A boundary event is handed to the blocks (R5, R31, R41, R55, R58, R83, R84, R112), after the clock's
transition. `before` is the state that the transition left. -/
def State.boundary (s before : State) : State :=
  let s := (s.stageAtBoundary).voidChanged before
  let s := if s.clock.state.isLive then s.reloadSilence else s
  (s.rosterAndArbiter before).forEach allElems State.feedAtBoundary

/-- A transition with its boundary event (R5, R7). -/
def State.enter (reason : Reason) (c : Clock) (s : State) : State := (s.transition reason c).boundary s

/-! ## Timed transitions (section 1.5) -/

/-- The clock after the DRIVE entry rule (R15). -/
def State.driveEntry (s : State) : Clock :=
  { s.clock with state := if s.timing.endgameS = s.timing.driveS then .endgame else .drive
                 remaining := s.timing.driveS * 1000 }

/-- The clock after the end of AUTO (R14). -/
def State.afterAuto (s : State) : Clock :=
  if 0 < s.timing.breakS then { s.clock with state := .brk, remaining := s.timing.breakS * 1000 } else s.driveEntry

/-- The clock after START (R13). -/
def State.afterStart (s : State) : Clock :=
  if 0 < s.timing.autoS then { s.clock with state := .auto, remaining := s.timing.autoS * 1000 } else s.driveEntry

/-- Whether the end of AUTO is to be taken (R14). -/
def State.autoDue (s : State) : Bool := s.clock.state = .auto && s.clock.remaining = 0
/-- Whether the end of BREAK is to be taken (R14). -/
def State.breakDue (s : State) : Bool := s.clock.state = .brk && s.clock.remaining = 0
/-- Whether the ENDGAME threshold is reached (R16). -/
def State.thresholdDue (s : State) : Bool :=
  s.clock.state = .drive && 0 < s.timing.endgameS && s.clock.remaining = s.timing.endgameS * 1000
/-- Whether the match is at its natural finish (R16). -/
def State.finishDue (s : State) : Bool :=
  s.clock.remaining = 0 && (s.clock.state = .endgame || (s.clock.state = .drive && s.timing.endgameS = 0))

/-- The end of AUTO (R14). Into a live phase, silence expiries of the same tick come before the reload (R55). -/
def State.autoExpiry (s : State) : State :=
  let s := if s.afterAuto.state.isLive then s.takeSilences else s
  s.enter .time s.afterAuto

/-- The end of BREAK (R14). -/
def State.breakExpiry (s : State) : State :=
  let s := s.takeSilences
  s.enter .time s.driveEntry

/-- DRIVE reaches the ENDGAME threshold (R16); silence expiries of the same tick come before the reload (R55). -/
def State.thresholdReached (s : State) : State :=
  let s := s.takeSilences
  s.enter .time { s.clock with state := .endgame }

/-- The natural finish (R16). -/
def State.naturalFinish (s : State) : State := s.enter .time { s.clock with state := .finished }

/-! ## Arm, disarm and new match -/

/-- A gate begins homing at the arm event unless it is AT_REST, BLOCKED or RETURNING (R97). -/
def State.homeGate (e : Elem) (s : State) : State :=
  let x := s.element e
  let begins := x.header.kind = .gate && x.motion ≠ .atRest &&
    match x.claim.state with
    | .blocked _ | .returning => false
    | .inert | .free | .held _ => true
  if begins then s.startMotion e .back .home else s

/-- The arm event: line tests are ended (R141) and gates are homed (R97). -/
def State.armEvent (s : State) : State :=
  (s.forEach allElems fun e s => s.modifyElement e Element.endTest).forEach allElems State.homeGate

/-- A homing gate stops at the disarm event (R97). -/
def Element.stopHoming (x : Element) : Element := if x.homing then x.halted else x

/-- The disarm event (R40, R97). -/
def State.disarmEvent (s : State) : State :=
  s.voidStage.forEach allElems fun e s => s.modifyElement e Element.stopHoming

/-- The claim state after the new-match event (R86).
MODEL'S CHOICE (notes/assumptions/29.md): a BLOCKED element that was given kind NONE becomes INERT though its group's stop
is asserted again, as R86 says; R25 and R144 keep it BLOCKED until an event that finds the stop released. -/
def State.claimAtNewMatch (s : State) (x : Element) : ClaimState :=
  if x.header.kind ≠ .none && (s.stop x.header.group).asserted then .blocked .field else .inert

/-- A motion state after the new-match event (R113). -/
def Motion.atNewMatch : Motion → Motion
  | .movingOut | .movingBack | .braking _ => .stopped
  | .unknown => .unknown
  | .atRest => .atRest
  | .atOut => .atOut
  | .stopped => .stopped

/-- An element after the new-match event (R86, R113, R134, R141): header, profiles and sense inputs are kept. -/
def State.elementAtNewMatch (s : State) (x : Element) : Element :=
  { x with
      claim := ⟨s.claimAtNewMatch x, none, []⟩
      timer := .stopped
      motion := if x.header.kind = .gate then x.motion.atNewMatch else x.motion
      purpose := .none
      shots := 0
      quotaMark := false
      feed := .stopped
      feedPending := false
      pieces := 0
      orphans := 0
      pulse := x.pulse.stop
      test := none }

/-- The new-match event (R21): roster, claim table, engines, units and tally are cleared; the plan, roles, masks,
queues and snapshot buffers are kept. -/
def State.newMatchEvent (s : State) : State :=
  let cleared : Port → PortRecord → PortRecord := fun _ x =>
    { x with silence := 0, link := .live, silenceDue := false }
  { s with
      robots := Vector.replicate 16 .reset
      elements := rewriteAll (fun _ x => s.elementAtNewMatch x) s.elements
      accumulators := Vector.replicate 4 0
      published := Vector.replicate 4 0
      ports := rewriteAll cleared s.ports }

/-! ## Field stop lines (R143, R144) -/

/-- The elements of a group, in order: those whose stored header names it (R143).
MODEL'S CHOICE (notes/assumptions/30.md): R146 says that after a SET ELEMENT that names the group "as present or new group"
the assertion blocks the element, R143 that the assertion does not touch elements of other groups. An element written out of
the group is in another one, so the assertion does not block it. -/
def State.group (s : State) (g : Group) : List Elem := allElems.filter fun e => (s.element e).header.group = g

/-- An accepted assertion of a field stop line (R143), on the elements that the group has at that moment
(notes/assumptions/30.md). -/
def State.assertStop (g : Group) (s : State) : State :=
  let s := s.setStop g ⟨true, none⟩
  let s := s.raise .element (some .fieldStop) none none (some (g.val : Int))
  s.forEach (s.group g) State.stopElement

/-- An accepted release of a field stop line (R144). -/
def State.releaseStop (g : Group) (s : State) : State :=
  (s.setStop g ⟨false, none⟩).raise .element (some .fieldClear) none none (some (g.val : Int))

/-- Whether an assertion is to be taken. -/
def State.assertDue (s : State) (g : Group) : Bool := !(s.stop g).asserted && acceptedDue (s.stop g).pending
/-- Whether a release is to be taken. -/
def State.releaseDue (s : State) (g : Group) : Bool := (s.stop g).asserted && acceptedDue (s.stop g).pending

end Sys2Proof.Machine
end

