-- ==== Sys2Proof/Machine/Settle.lean ====
section
/-! DEFINITION. When a command acts: events that are not due do nothing, and a request or a tick first takes every
expiry, accepted change and follow-up that the last tick left (notes/assumptions/2.md). The counting of a tick
(R2), the frame of a request (R163, R164) and its answer (R165, R172). -/

namespace Sys2Proof.Machine

/-! ## Outstanding events -/

/-- For each index of a list, in order: take its event if it is due. -/
def State.takeEach {ι : Type} (xs : List ι) (due : State → ι → Bool) (act : ι → State → State) (s : State) : State :=
  s.forEach xs fun i s => if due s i then act i s else s

/-- The expiry of a pulse unit, by its mode (R118 to R123). -/
def State.takePulse (e : Elem) (s : State) : State :=
  let u := (s.element e).pulse
  if u.shotDue then s.shotExpiry e
  else if u.rateDue then s.rateExpiry e
  else if u.waveDue then s.waveChange e
  else if u.strobeDue then s.strobeExpiry e
  else s

/-- Whether an accepted change of a sense input is to be taken (R137). -/
def State.senseDue (i : SenseId) (s : State) (e : Elem) : Bool := acceptedDue ((s.element e).sense i).pending

/-- The accepted change of a field stop line, by its direction. -/
def State.takeStop (g : Group) (s : State) : State :=
  if s.assertDue g then s.assertStop g else if s.releaseDue g then s.releaseStop g else s

/-- The phase clock's transition that the remaining time calls for (R4). -/
def State.takePhase (s : State) : State :=
  if s.autoDue then s.autoExpiry
  else if s.breakDue then s.breakExpiry
  else if s.thresholdDue then s.thresholdReached
  else if s.finishDue then s.naturalFinish
  else s

/-- Take everything that the last tick left outstanding: silence, bench, pulse unit and claim timer expiries,
accepted sense and field stop changes, pending feeds, arrivals, ends of RETURNING, and last the phase clock's
transition. The order among events of one tick is the model's (notes/assumptions/2.md); a sender that wants another
order names the events one by one. -/
def State.settled (s : State) : State :=
  let s := s.takeSilences
  let s := s.takeEach allRobots State.benchDue State.benchExpiry
  let s := s.forEach allElems State.takePulse
  let s := s.takeEach allElems (fun s e => (s.element e).timer.due) State.timerExpiry
  let s := s.takeEach allElems (State.senseDue .s0) (State.acceptSense · .s0)
  let s := s.takeEach allElems (State.senseDue .s1) (State.acceptSense · .s1)
  let s := s.forEach allGroups State.takeStop
  let s := s.takeEach allElems (fun s e => (s.element e).feedDue) State.startPendingFeed
  let s := s.takeEach allElems (fun s e => (s.element e).arrivalDue) State.takeArrival
  let s := s.takeEach allElems (fun s e => (s.element e).returnDue) State.settleReturn
  s.takePhase

/-- An event: it acts if it is due and RST is not active, and is no event otherwise (notes/assumptions/3.md and
notes/assumptions/5.md). -/
def State.event (due : State → Bool) (act : State → State) (s : State) : State :=
  if !s.rst && due s then act s else s

/-! ## The tick (R2) -/

/-- The roster's silence timer at a counting tick (R53): a LIVE bridge port's timer falls, and at 0 its expiry is
due. -/
def PortRecord.silenceTick (x : PortRecord) : PortRecord :=
  if x.link = .live && 0 < x.silence then
    { x with silence := x.silence - 1, silenceDue := x.silence = 1 }
  else x

/-- The counting and sampling of one element at a tick (R117, R129, R135). -/
def Element.tick (counting : Bool) (sense : BitVec 48) (e : Elem) (x : Element) : Element :=
  { x with
      pulse := if counting then x.pulse.tick else x.pulse
      timer := if counting then x.timer.tick else x.timer
      s0 := x.s0.take x.header.s0.filter (sense.getLsbD (2 * e.val))
      s1 := x.s1.take x.header.s1.filter (sense.getLsbD (2 * e.val + 1)) }

/-- Every counting timer, sampler and filter acts on the tick (R4, R49, R53, R117, R129, R135, R142). -/
def State.count (sense : BitVec 48) (fs : BitVec 4) (s : State) : State :=
  let live := s.clock.state.isLive
  let running := s.clock.state.isRunning
  let silenced : Port → PortRecord → PortRecord := fun p x =>
    if live && s.isBridge p then x.silenceTick else x
  { s with
      clock := if running then { s.clock with remaining := s.clock.remaining - 1 } else s.clock
      robots := rewriteAll (fun _ x => if live then { x with bench := x.bench - 1 } else x) s.robots
      ports := rewriteAll silenced s.ports
      elements := rewriteAll (Element.tick (s.clock.state ≠ .halted) sense) s.elements
      stops := rewriteAll (fun g x => x.take (fs.getLsbD g.val)) s.stops }

/-! ## Frames (section 9.2) -/

/-- Whether a port's frame receiver can take a whole request in: a frame has begun and nothing of it has been clocked
(R162; notes/assumptions/4.md). -/
def State.listening (s : State) (p : Port) : Bool := (s.port p).frame = .begun

/-- A frame of a bridge port is complete (R52, R54): its silence timer is reloaded; a STALE link becomes LIVE and each
robot bound to the port has a ROBOT notice of reason LIVE. -/
def State.frameComplete (p : Port) (s : State) : State :=
  if s.isBridge p then
    let wasStale := (s.port p).link = .stale
    let s := s.modifyPort p fun x => { x with link := .live, silence := s.timing.silence, silenceDue := false }
    if wasStale then s.forEach (s.boundTo p) fun r s => s.raiseRobot .live r else s
  else s

/-- The answer of a request: its status and the answer bytes it names; the rest of its answer reads 0x00 (R172). -/
structure Answer where
  status : Status
  bytes : List Byte

/-- Fill an answer up to its length in Table 9-7 (R165, R172). -/
def padded (n : Nat) (bytes : List Byte) : List Byte := bytes ++ List.replicate (n - bytes.length) 0

/-- Fix the answer of the frame under way; the receiver is in ANSWER until select is released (R164, R165). -/
def State.reply (p : Port) (length : Nat) (a : Answer) (s : State) : State :=
  s.modifyPort p fun x => { x with frame := .answering (a.status.code :: padded length a.bytes) }

/-- An accepted answer. -/
def accept (bytes : List Byte) : Answer := ⟨.ok, bytes⟩
/-- A refusal: its answer bytes all read 0x00 (R172). -/
def refuse (status : Status) : Answer := ⟨status, []⟩

/-- A request reaches its effect point on a port (R163, R164): nothing happens while RST is active or no frame
has just begun; a role that the request is not open to is answered ROLE; else the frame is complete, and then
the owning block examines the request and answers. -/
def State.request (p : Port) (code : Byte) (body : State → State × Answer) (s : State) : State :=
  match requestRow code with
  | none => s
  | some row =>
    if s.rst || !s.listening p then s
    else
      let s := s.settled.frameComplete p
      if row.openTo (s.role p) then
        let result := body s
        result.1.reply p row.answer result.2
      else s.reply p row.answer (refuse .role)

/-- A request that only reads. -/
def State.query (p : Port) (code : Byte) (body : State → Answer) (s : State) : State :=
  s.request p code fun s => (s, body s)

end Sys2Proof.Machine
end

