-- ==== Sys2Proof/Machine/Operands.lean ====
section
/-! DEFINITION. Reading argument bytes (section 9.5): element headers (R24), phase profiles (R26, R27), the timing
record (R9) and the small codes of Table 9-6; and the plan check of ARM (R28, R29). -/

namespace Sys2Proof.Machine

/-- A robot number. -/
def robotOf (b : Byte) : Option Robot := indexOf 16 b
/-- An element number. -/
def elementOf (b : Byte) : Option Elem := indexOf 24 b
/-- An alliance number. -/
def allianceOf (b : Byte) : Option Alliance := indexOf 4 b

/-- A bridge port number in BIND: 1 to 5 (R44). -/
def bindPortOf (b : Byte) : Option Port :=
  match indexOf 6 b with
  | some p => if p = 0 then none else some p
  | none => none

/-- A direction code. -/
def directionOf (b : Byte) : Option Direction :=
  match b with
  | 0#8 => some .out
  | 1#8 => some .back
  | _ => none

/-- A line code. -/
def lineOf (b : Byte) : Option Line :=
  match b with
  | 0#8 => some .d0
  | 1#8 => some .d1
  | _ => none

/-- A profile phase argument: 2, 4 or 5. -/
def livePhaseOf (b : Byte) : Option LivePhase :=
  match b with
  | 2#8 => some .auto
  | 4#8 => some .drive
  | 5#8 => some .endgame
  | _ => none

/-- An element kind code. -/
def kindOf (b : Byte) : Option Kind :=
  match b with
  | 0#8 => some .none
  | 1#8 => some .gate
  | 2#8 => some .dispenser
  | 3#8 => some .goal
  | 4#8 => some .beacon
  | _ => none

/-- A use code. -/
def useOf (b : Byte) : Option Use :=
  match b with
  | 0#8 => some .closed
  | 1#8 => some .claim
  | 2#8 => some .auto
  | _ => none

/-- A credit code: a FIXED alliance or HOLDER. -/
def creditOf (b : Byte) : Option Credit :=
  match allianceOf b with
  | some a => some (.fixed a)
  | none => if b = 0x10#8 then some .holder else none

/-- An edge choice code; 3 is refused. -/
def edgeOf (b : BitVec 2) : Option EdgeChoice :=
  match b with
  | 0#2 => some .active
  | 1#2 => some .release
  | 2#2 => some .any
  | _ => none

/-- A sense setting byte; bit 6 is ignored. -/
def senseSettingOf (b : Byte) : Option SenseSetting :=
  (edgeOf (b.extractLsb' 4 2)).map fun edge => ⟨b.getLsbD 7, (b.extractLsb' 0 4).toNat, edge⟩

/-- A subscription mask; bits 7 to 3 are ignored. -/
def subscriptionOf (b : Byte) : Subscription := ⟨b.getLsbD 0, b.getLsbD 1, b.getLsbD 2⟩

/-- A value if it lies in a range. -/
def inRange (lo hi : Nat) (v : Half) : Option Nat :=
  if lo ≤ v.toNat && v.toNat ≤ hi then some v.toNat else none

/-- A clamped length or limit. -/
def clampHalf (lo hi : Nat) (v : Half) : Nat := clampNat lo hi v.toNat

/-! ## Timing record (R9) -/

/-- The record that SET TIMING stores: each value clamped, the DRIVE length before the ENDGAME length. -/
def timingOf (a : TimingArgs) : Timing :=
  let drive := clampHalf 10 900 a.driveS
  { autoS := clampHalf 0 300 a.autoS
    breakS := clampHalf 0 120 a.breakS
    driveS := drive
    endgameS := clampHalf 0 drive a.endgameS
    autoMul := clampNat 1 4 a.autoMul.toNat
    driveMul := clampNat 1 4 a.driveMul.toNat
    endgameMul := clampNat 1 4 a.endgameMul.toNat
    silence := clampHalf 100 2000 a.silence }

/-! ## Element headers (R24) -/

/-- The kind values of a header, each within the range of Table 2-1 where the kind reads it: motion limit, brake
time, release width, lamp width. -/
def kindValuesOf (k : Kind) (v1 v2 : Half) : Option (Option Nat × Option Nat × Option Nat × Option Nat) :=
  match k with
  | .none | .beacon => some (none, none, none, none)
  | .gate =>
    match inRange 100 30000 v1, inRange 10 2000 v2 with
    | some motion, some brake => some (some motion, some brake, none, none)
    | _, _ => none
  | .dispenser => (inRange 10 2000 v1).map fun width => (none, none, some width, none)
  | .goal => (inRange 0 5000 v1).map fun width => (none, none, none, some width)

/-- The header that SET ELEMENT stores, if every argument is valid (R24, check 2). -/
def headerOf (a : HeaderArgs) : Option Header := do
  let kind ← kindOf a.kind
  let group ← indexOf 4 a.group
  let s0 ← senseSettingOf a.s0
  let s1 ← senseSettingOf a.s1
  let (motion, brake, width, lamp) ← kindValuesOf kind a.value1 a.value2
  return ⟨kind, group, s0, s1, a.drive.getLsbD 0, a.drive.getLsbD 1, motion, brake, width, lamp⟩

/-! ## Phase profiles (R26, R27) -/

/-- The fields that a valid pair of kind and use carries (Table 2-3). -/
structure PairFields where
  mask : Bool
  hold : Bool
  cooldown : Bool
  weight : Bool
  credit : Bool
  feedPeriod : Bool
  interval : Bool
  quota : Bool
  deriving DecidableEq, Repr

/-- Table 2-3; `none` for a pair it does not list. -/
def pairFields (k : Kind) (u : Use) : Option PairFields :=
  match k, u with
  | _, .closed => some ⟨false, false, false, false, false, false, false, false⟩
  | .gate, .claim => some ⟨true, true, false, false, false, false, false, false⟩
  | .dispenser, .claim => some ⟨true, true, true, false, false, false, false, true⟩
  | .dispenser, .auto => some ⟨false, false, false, false, false, true, false, false⟩
  | .goal, .claim => some ⟨true, true, true, true, true, false, false, false⟩
  | .goal, .auto => some ⟨false, false, false, true, true, false, false, false⟩
  | .beacon, .claim => some ⟨true, true, true, true, false, false, true, false⟩
  | .none, .claim | .none, .auto | .gate, .auto | .beacon, .auto => none

/-- Whether a credit has the form that R26 requires of a goal with a use: HOLDER for CLAIM, FIXED for AUTO. -/
def creditFits (u : Use) (c : Credit) : Bool :=
  match u, c with
  | .claim, .holder => true
  | .auto, .fixed _ => true
  | _, _ => false

/-- A field that the pair carries, checked; a field that it does not carry is not checked and not stored (R27). -/
def carried {α : Type} (present : Bool) (v : Option α) : Option (Option α) :=
  if present then v.map some else some none

/-- The profile that SET PROFILE or STAGE PUT stores for an element of a kind, if it passes checks 2 to 4 of R27. -/
def profileOf (k : Kind) (a : ProfileArgs) : Option Profile := do
  let use ← useOf a.use
  let f ← pairFields k use
  let credit ← carried f.credit ((creditOf a.credit).filter (creditFits use))
  let cooldown ← carried f.cooldown (inRange 0 10000 a.cooldown)
  let feedPeriod ← carried f.feedPeriod (inRange 200 60000 a.feedPeriod)
  let interval ← carried f.interval (inRange 500 60000 a.interval)
  let quota ← carried f.quota (if a.quota.toNat ≤ 15 then some a.quota.toNat else none)
  return ⟨use, if f.mask then some (a.mask.extractLsb' 0 4) else none, if f.hold then some a.hold.toNat else none,
    cooldown, if f.weight then some a.weight.toNat else none, credit, feedPeriod, interval, quota⟩

/-! ## The plan check of ARM (R28, R29) -/

/-- Whether a stored profile fits an element's kind: a valid pair, the credit form of R26, every listed field
present. -/
def profileFits (k : Kind) (p : Profile) : Bool :=
  match pairFields k p.use with
  | none => false
  | some f =>
    (!f.mask || p.mask.isSome) && (!f.hold || p.hold.isSome) && (!f.cooldown || p.cooldown.isSome) &&
    (!f.weight || p.weight.isSome) && (!f.feedPeriod || p.feedPeriod.isSome) &&
    (!f.interval || p.interval.isSome) && (!f.quota || p.quota.isSome) &&
    (!f.credit || match p.credit with
      | some c => creditFits p.use c
      | none => false)

/-- Whether an element passes the plan check: its profiles in the order AUTO, DRIVE, ENDGAME (R28). -/
def Element.planFits (x : Element) : Bool :=
  profileFits x.header.kind x.planAuto && profileFits x.header.kind x.planDrive &&
    profileFits x.header.kind x.planEndgame

/-- The first failure of the plan check: an element, or `none` inside for the timing record (R10, R29). -/
def State.planFailure (s : State) : Option (Option Elem) :=
  match allElems.find? fun e => !(s.element e).planFits with
  | some e => some (some e)
  | none =>
    if Config.matchLimit < s.timing.autoS + s.timing.breakS + s.timing.driveS then some none else none

end Sys2Proof.Machine
end

