-- ==== Sys2Proof/Machine/Bridge.lean ====
section
/-! DEFINITION. The bridge requests: CLAIM, RELEASE, WITHDRAW, MOVE and DISPENSE (R62 to R66, R91, R92, R100). -/

namespace Sys2Proof.Machine

/-- Whether a robot is bound to the port that sends a request. -/
def State.isYours (s : State) (p : Port) (r : Robot) : Bool := (s.robot r).bound = some p

/-- A CLAIM that finds the element FREE (R63). -/
def State.grantClaim (r : Robot) (e : Elem) (s : State) : State × Answer :=
  let hold := (s.activeProfile e).holdS
  ((s.makeHolder e r).tellGrant e, ⟨.granted, [indexByte e, byte hold, 0]⟩)

/-- A CLAIM that finds the element HELD or RETURNING (R64). -/
def State.queueClaim (r : Robot) (e : Elem) (s : State) : State × Answer :=
  let c := s.claim e
  if c.waiters.length < Config.waitCapacity then
    (s.setClaim e { c with waiters := c.waiters ++ [r] },
      ⟨.queued, [indexByte e, 0, byte (c.waiters.length + 1)]⟩)
  else (s, refuse .listFull)

/-- CLAIM (R62 to R64). -/
def State.claimRequest (p : Port) (robot element : Byte) (s : State) : State × Answer :=
  match robotOf robot, elementOf element with
  | some r, some e =>
    if !s.isYours p r then (s, refuse .notYours)
    else if !s.clock.state.isLive then (s, refuse .phase)
    else if !s.enabled r then (s, refuse .notEnabled)
    else if (s.claim e).state.isBlocked then (s, refuse .blocked)
    else if !s.mayUse (s.activeProfile e) r then (s, refuse .notOpen)
    else if (s.claim e).state = .held r then (s, ⟨.already, [indexByte e, 0, 0]⟩)
    else if (s.heldBy r).isSome then (s, refuse .oneHeld)
    else match s.waitOf r with
      | some (e', k) => if e' = e then (s, ⟨.already, [indexByte e, 0, byte k]⟩) else (s, refuse .oneWait)
      | none =>
        match (s.claim e).state with
        | .free => s.grantClaim r e
        | .held _ | .returning => s.queueClaim r e
        | .inert | .blocked _ => (s, refuse .notOpen)
  | _, _ => (s, refuse .badArg)

/-- CLAIM. -/
def execClaim (p : Port) (robot element : Byte) (s : State) : Host.Outcome State Fault Refusal :=
  .next (s.request p 0x20 (State.claimRequest p robot element))

/-- RELEASE (R65). -/
def State.releaseRequest (p : Port) (robot element : Byte) (s : State) : State × Answer :=
  match robotOf robot, elementOf element with
  | some r, some e =>
    if !s.isYours p r then (s, refuse .notYours)
    else if !(s.clock.state.isLive || s.clock.state = .halted) then (s, refuse .phase)
    else if (s.claim e).state = .held r then (s.endClaim e .released, accept [])
    else (s, refuse .notHolder)
  | _, _ => (s, refuse .badArg)

/-- RELEASE. -/
def execRelease (p : Port) (robot element : Byte) (s : State) : Host.Outcome State Fault Refusal :=
  .next (s.request p 0x21 (State.releaseRequest p robot element))

/-- WITHDRAW (R66): the robot leaves its wait list without a notice. -/
def State.withdrawRequest (p : Port) (robot : Byte) (s : State) : State × Answer :=
  match robotOf robot with
  | some r =>
    if !s.isYours p r then (s, refuse .notYours)
    else match s.waitOf r with
      | some (e, k) =>
        let c := s.claim e
        (s.setClaim e { c with waiters := c.waiters.filter (· ≠ r) }, accept [indexByte e, byte k])
      | none => (s, ⟨.already, []⟩)
  | none => (s, refuse .badArg)

/-- WITHDRAW. -/
def execWithdraw (p : Port) (robot : Byte) (s : State) : Host.Outcome State Fault Refusal :=
  .next (s.request p 0x22 (State.withdrawRequest p robot))

/-- The answer of an accepted MOVE: the motion state after it (R92). -/
def State.moveAnswer (e : Elem) (s : State) : State × Answer := (s, accept [byte (s.element e).motion.code])

/-- A MOVE that passes its checks acts by the motion state (R92, Table 5-3). -/
def State.moveGate (e : Elem) (d : Direction) (s : State) : State × Answer :=
  match (s.element e).motion, d with
  | .atRest, .back | .atOut, .out => (s, ⟨.already, []⟩)
  | .movingOut, .out | .movingBack, .back => (s, refuse .busy)
  | .braking _, _ => (s, refuse .busy)
  | .movingOut, .back | .movingBack, .out =>
    (s.modifyElement e fun x => x.reverse d x.purpose).moveAnswer e
  | .atRest, .out | .atOut, .back | .unknown, _ | .stopped, _ => (s.startMotion e d .holder).moveAnswer e

/-- MOVE (R91). -/
def State.moveRequest (p : Port) (robot element direction : Byte) (s : State) : State × Answer :=
  match robotOf robot, elementOf element, directionOf direction with
  | some r, some e, some d =>
    if !s.isYours p r then (s, refuse .notYours)
    else if !s.clock.state.isLive then (s, refuse .phase)
    else if (s.element e).header.kind ≠ .gate then (s, refuse .badArg)
    else if (s.claim e).state = .held r then s.moveGate e d
    else (s, refuse .notHolder)
  | _, _, _ => (s, refuse .badArg)

/-- MOVE. -/
def execMove (p : Port) (robot element direction : Byte) (s : State) : Host.Outcome State Fault Refusal :=
  .next (s.request p 0x23 (State.moveRequest p robot element direction))

/-- The release shot of an accepted DISPENSE (R100). -/
def Element.fire (quota : Nat) (x : Element) : Element :=
  let shots := min Config.shotLimit (x.shots + 1)
  { x.drivePulse (PulseUnit.trigger (x.header.releaseWidth.getD 0)) with
      shots := shots, quotaMark := x.quotaMark || (0 < quota && quota ≤ shots) }

/-- DISPENSE (R100). -/
def State.dispenseRequest (p : Port) (robot element : Byte) (s : State) : State × Answer :=
  match robotOf robot, elementOf element with
  | some r, some e =>
    let x := s.element e
    if !s.isYours p r then (s, refuse .notYours)
    else if !s.clock.state.isLive then (s, refuse .phase)
    else if x.header.kind ≠ .dispenser then (s, refuse .badArg)
    else if (s.claim e).state ≠ .held r then (s, refuse .notHolder)
    else if x.senseActive .s1 then (s, refuse .empty)
    else if x.pulse.mode = .shot then (s, refuse .busy)
    else
      let quota := (s.activeProfile e).quota.getD 0
      let s := s.modifyElement e (Element.fire quota)
      (s, accept [byte (s.element e).shots, byte quota])
  | _, _ => (s, refuse .badArg)

/-- DISPENSE. -/
def execDispense (p : Port) (robot element : Byte) (s : State) : Host.Outcome State Fault Refusal :=
  .next (s.request p 0x24 (State.dispenseRequest p robot element))

end Sys2Proof.Machine
end

