-- ==== Sys2Proof/Machine/Events.lean ====
section
/-! DEFINITION. The events: reset and RST (R2, R160), select edges (R162, R166, R167), frames without a request
(R163), the tick and what falls due at it. -/

namespace Sys2Proof.Machine

/-- HARDWARE RESET: release of RST (R2, R136, R142, R160, R161). What the model
itself adds is kept: the queue, the waiting clocks and its counter. -/
def execHardwareReset (straps : BitVec 5) (sense : BitVec 48) (fs : BitVec 4) (s : State) :
    Host.Outcome State Fault Refusal :=
  .next (.afterReset straps sense fs s.boundaries s.pending s.clocks)

/-- A frame under way is abandoned, partial byte and all (R160, R162). -/
def PortRecord.dropFrame (x : PortRecord) : PortRecord := { x with frame := .idle }

/-- RST becomes active: frames are abandoned at once and every drive line is held inactive (R139, R160). -/
def execRstActive (s : State) : Host.Outcome State Fault Refusal :=
  .next { s with ports := rewriteAll (fun _ x => x.dropFrame) s.ports, rst := true }

/-- SELECT becomes active: a frame begins (R162). A receiver that is not IDLE has its select active already. -/
def execSelectActive (p : Port) (s : State) : Host.Outcome State Fault Refusal :=
  .next (if s.rst then s else s.modifyPort p fun x =>
    match x.frame.receiver with
    | .idle => { x with frame := .begun }
    | .code | .arguments | .answer => x)

/-- SELECT is released: the receiver returns to IDLE from any state; a partial byte, the bytes of a frame short of its
effect point and what was not yet shifted out of an answer are lost (R162, R166, R167). -/
def execSelectReleased (p : Port) (s : State) : Host.Outcome State Fault Refusal :=
  .next (if s.rst then s else s.modifyPort p PortRecord.dropFrame)

/-- A frame without a request: the code byte completes the frame (R163, R164). -/
def State.codeAnswered (p : Port) (length : Nat) (status : Status) (s : State) : State :=
  if s.rst || !s.listening p then s
  else (s.settled.frameComplete p).reply p length (refuse status)

/-- UNKNOWN: the code is not in Table 9-7 (R163). -/
def execUnknownAnswer (p : Port) (code : Byte) (s : State) : Host.Outcome State Fault Refusal :=
  .next (match requestRow code with
    | none => s.codeAnswered p 0 .unknown
    | some _ => s)

/-- ROLE: the code is in Table 9-7 and its request not open to the port's role (R163). -/
def execRoleAnswer (p : Port) (code : Byte) (s : State) : Host.Outcome State Fault Refusal :=
  .next (match requestRow code with
    | none => s
    | some row => if row.openTo (s.role p) then s else s.codeAnswered p row.answer .role)

/-- TICK (R2): what the last tick left is taken, then every timer counts and every filter samples. -/
def execTick (sense : BitVec 48) (fs : BitVec 4) (s : State) : Host.Outcome State Fault Refusal :=
  .next (if s.rst then s else s.settled.count sense fs)

/-- AUTO EXPIRY (R14). -/
def execAutoExpiry (s : State) : Host.Outcome State Fault Refusal := .next (s.event State.autoDue State.autoExpiry)

/-- BREAK EXPIRY (R14). -/
def execBreakExpiry (s : State) : Host.Outcome State Fault Refusal := .next (s.event State.breakDue State.breakExpiry)

/-- ENDGAME THRESHOLD (R16). -/
def execEndgameThreshold (s : State) : Host.Outcome State Fault Refusal :=
  .next (s.event State.thresholdDue State.thresholdReached)

/-- NATURAL FINISH (R16). -/
def execNaturalFinish (s : State) : Host.Outcome State Fault Refusal :=
  .next (s.event State.finishDue State.naturalFinish)

/-- FEED PENDING START (R103). -/
def execFeedPendingStart (e : Elem) (s : State) : Host.Outcome State Fault Refusal :=
  .next (s.event (fun s => (s.element e).feedDue) (State.startPendingFeed e))

/-- BENCH EXPIRY (R50). -/
def execBenchExpiry (r : Robot) (s : State) : Host.Outcome State Fault Refusal :=
  .next (s.event (fun s => s.benchDue r) (State.benchExpiry r))

/-- SILENCE EXPIRY (R53). -/
def execSilenceExpiry (p : Port) (s : State) : Host.Outcome State Fault Refusal :=
  .next (s.event (fun s => s.silenceDue p) (State.silenceExpiry p))

/-- SHOT EXPIRY (R118). -/
def execShotExpiry (e : Elem) (s : State) : Host.Outcome State Fault Refusal :=
  .next (s.event (fun s => (s.element e).pulse.shotDue) (State.shotExpiry e))

/-- RATE EXPIRY (R120). -/
def execRateExpiry (e : Elem) (s : State) : Host.Outcome State Fault Refusal :=
  .next (s.event (fun s => (s.element e).pulse.rateDue) (State.rateExpiry e))

/-- WAVE HALF CHANGE (R121). -/
def execWaveHalfChange (e : Elem) (s : State) : Host.Outcome State Fault Refusal :=
  .next (s.event (fun s => (s.element e).pulse.waveDue) (State.waveChange e))

/-- STROBE EXPIRY (R123). -/
def execStrobeExpiry (e : Elem) (s : State) : Host.Outcome State Fault Refusal :=
  .next (s.event (fun s => (s.element e).pulse.strobeDue) (State.strobeExpiry e))

/-- CLAIM TIMER EXPIRY (R132). -/
def execClaimTimerExpiry (e : Elem) (s : State) : Host.Outcome State Fault Refusal :=
  .next (s.event (fun s => (s.element e).timer.due) (State.timerExpiry e))

/-- SENSE CHANGE ACCEPTED (R137, R138). -/
def execSenseChangeAccepted (e : Elem) (i : SenseId) (s : State) : Host.Outcome State Fault Refusal :=
  .next (s.event (fun s => State.senseDue i s e) (State.acceptSense e i))

/-- FIELD STOP ASSERTED (R143). -/
def execFieldStopAsserted (g : Group) (s : State) : Host.Outcome State Fault Refusal :=
  .next (s.event (fun s => s.assertDue g) (State.assertStop g))

/-- FIELD STOP RELEASED (R144). -/
def execFieldStopReleased (g : Group) (s : State) : Host.Outcome State Fault Refusal :=
  .next (s.event (fun s => s.releaseDue g) (State.releaseStop g))

/-- GATE ARRIVAL (R93). -/
def execGateArrival (e : Elem) (s : State) : Host.Outcome State Fault Refusal :=
  .next (s.event (fun s => (s.element e).arrivalDue) (State.takeArrival e))

/-- RETURN END (R75). -/
def execReturnEnd (e : Elem) (s : State) : Host.Outcome State Fault Refusal :=
  .next (s.event (fun s => (s.element e).returnEnds) (State.takeReturnEnd e))

end Sys2Proof.Machine
end

