-- ==== Sys2Proof/Machine/Plan.lean ====
section
/-! DEFINITION. The referee's plan requests: SET TIMING, SET ELEMENT, SET PROFILE, BIND, UNBIND, LINE TEST (R9, R24,
R25, R27, R44, R45, R140) and the stage requests (R33 to R36). -/

namespace Sys2Proof.Machine

/-- SET TIMING (R9). -/
def State.timingRequest (args : TimingArgs) (s : State) : State × Answer :=
  if s.clock.state = .setup then ({ s with timing := timingOf args }, accept (timingOf args).bytes)
  else (s, refuse .phase)

/-- SET TIMING. -/
def execSetTiming (p : Port) (args : TimingArgs) (s : State) : Host.Outcome State Fault Refusal :=
  .next (s.request p 0x40 (State.timingRequest args))

/-- A header is written (R25): the sense levels stay, pending changes are cancelled, the motion state becomes UNKNOWN
with no purpose. -/
def Element.writeHeader (h : Header) (x : Element) : Element :=
  { x with header := h, motion := .unknown, purpose := .none,
           s0 := { x.s0 with pending := none }, s1 := { x.s1 with pending := none } }

/-- SET ELEMENT (R24, R25). -/
def State.elementRequest (element : Byte) (args : HeaderArgs) (s : State) : State × Answer :=
  if s.clock.state ≠ .setup then (s, refuse .phase)
  else match elementOf element, headerOf args with
    | some e, some h =>
      let x := s.element e
      if (s.stop x.header.group).asserted || (s.stop h.group).asserted then (s, refuse .fieldActive)
      else if x.pulse.mode ≠ .idle then (s, refuse .busy)
      else ((s.modifyElement e (Element.writeHeader h)).voidSnapshots e, accept (h.bytes e))
    | _, _ => (s, refuse .badArg)

/-- SET ELEMENT. -/
def execSetElement (p : Port) (element : Byte) (args : HeaderArgs) (s : State) : Host.Outcome State Fault Refusal :=
  .next (s.request p 0x41 (State.elementRequest element args))

/-- SET PROFILE (R27). -/
def State.profileRequest (element phase : Byte) (args : ProfileArgs) (s : State) : State × Answer :=
  if s.clock.state ≠ .setup then (s, refuse .phase)
  else match elementOf element, livePhaseOf phase with
    | some e, some ph =>
      match profileOf (s.element e).header.kind args with
      | some pr => (s.modifyElement e fun x => x.setPlan ph pr, accept (pr.bytes e ph))
      | none => (s, refuse .badArg)
    | _, _ => (s, refuse .badArg)

/-- SET PROFILE. -/
def execSetProfile (p : Port) (element phase : Byte) (args : ProfileArgs) (s : State) :
    Host.Outcome State Fault Refusal :=
  .next (s.request p 0x42 (State.profileRequest element phase args))

/-- BIND (R44). -/
def State.bindRequest (robot port alliance : Byte) (s : State) : State × Answer :=
  if s.clock.state ≠ .setup then (s, refuse .phase)
  else match robotOf robot, bindPortOf port, allianceOf alliance with
    | some r, some q, some a =>
      if s.isBridge q then (s.modifyRobot r fun x => { x with bound := some q, alliance := some a }, accept [])
      else (s, refuse .badArg)
    | _, _, _ => (s, refuse .badArg)

/-- BIND. -/
def execBind (p : Port) (robot port alliance : Byte) (s : State) : Host.Outcome State Fault Refusal :=
  .next (s.request p 0x43 (State.bindRequest robot port alliance))

/-- UNBIND (R45). -/
def State.unbindRequest (robot : Byte) (s : State) : State × Answer :=
  if s.clock.state ≠ .setup then (s, refuse .phase)
  else match robotOf robot with
    | some r =>
      if s.isBound r then (s.modifyRobot r fun x => { x with bound := none, alliance := none }, accept [])
      else (s, ⟨.already, []⟩)
    | none => (s, refuse .badArg)

/-- UNBIND. -/
def execUnbind (p : Port) (robot : Byte) (s : State) : Host.Outcome State Fault Refusal :=
  .next (s.request p 0x44 (State.unbindRequest robot))

/-- The other drive line of an element. -/
def otherLine : Line → Line
  | .d0 => .d1
  | .d1 => .d0

/-- LINE TEST (R140). -/
def State.testRequest (element line : Byte) (width : Half) (s : State) : State × Answer :=
  match elementOf element, lineOf line, inRange 10 2000 width with
  | some e, some l, some w =>
    let x := s.element e
    if s.clock.state ≠ .setup then (s, refuse .phase)
    else if (s.stop x.header.group).asserted then (s, refuse .fieldActive)
    else if x.header.kind = .gate && s.driveActive e (otherLine l) then (s, refuse .badArg)
    else if x.pulse.mode ≠ .idle then (s, refuse .busy)
    else (s.modifyElement e fun x => { x with pulse := x.pulse.testTrigger w, test := some l }, accept (bytes2 w))
  | _, _, _ => (s, refuse .badArg)

/-- LINE TEST. -/
def execLineTest (p : Port) (element line : Byte) (width : Half) (s : State) : Host.Outcome State Fault Refusal :=
  .next (s.request p 0x45 (State.testRequest element line width))

/-- Whether a stage may be opened in a match state (R33). -/
def MatchState.stageOpens : MatchState → Bool
  | .armed | .auto | .brk | .drive | .endgame | .halted => true
  | .setup | .finished | .closed => false

/-- STAGE OPEN (R33). -/
def State.stageOpenRequest (s : State) : State × Answer :=
  if !s.clock.state.stageOpens then (s, refuse .phase)
  else match s.stage.state with
    | .empty => ({ s with stage := ⟨.opened, Stage.reset.entries⟩ }, accept [])
    | .opened | .sealed => (s, refuse .stageState)

/-- STAGE OPEN. -/
def execStageOpen (p : Port) (s : State) : Host.Outcome State Fault Refusal :=
  .next (s.request p 0x70 State.stageOpenRequest)

/-- Put a stage entry, replacing the element's entry if it has one (R34). -/
def Stage.put (e : Elem) (pr : Profile) (st : Stage) : Stage :=
  { st with entries := st.entries.set e.val (some pr) e.isLt }

/-- STAGE PUT (R34). -/
def State.stagePutRequest (element : Byte) (args : ProfileArgs) (s : State) : State × Answer :=
  match s.stage.state with
  | .empty | .sealed => (s, refuse .stageState)
  | .opened =>
    match elementOf element with
    | some e =>
      match profileOf (s.element e).header.kind args with
      | some pr => ({ s with stage := s.stage.put e pr }, accept [byte (s.stage.put e pr).count])
      | none => (s, refuse .badArg)
    | none => (s, refuse .badArg)

/-- STAGE PUT. -/
def execStagePut (p : Port) (element : Byte) (args : ProfileArgs) (s : State) : Host.Outcome State Fault Refusal :=
  .next (s.request p 0x71 (State.stagePutRequest element args))

/-- STAGE SEAL (R35). -/
def State.stageSealRequest (s : State) : State × Answer :=
  match s.stage.state with
  | .empty | .sealed => (s, refuse .stageState)
  | .opened =>
    if s.stage.count = 0 then (s, refuse .badArg)
    else ({ s with stage := { s.stage with state := .sealed } }, accept [byte s.stage.count])

/-- STAGE SEAL. -/
def execStageSeal (p : Port) (s : State) : Host.Outcome State Fault Refusal :=
  .next (s.request p 0x72 State.stageSealRequest)

/-- STAGE DISCARD (R36). -/
def State.stageDiscardRequest (s : State) : State × Answer :=
  match s.stage.state with
  | .empty => (s, refuse .stageState)
  | .opened | .sealed => ({ s with stage := .reset }, accept [byte s.stage.count])

/-- STAGE DISCARD. -/
def execStageDiscard (p : Port) (s : State) : Host.Outcome State Fault Refusal :=
  .next (s.request p 0x73 State.stageDiscardRequest)

end Sys2Proof.Machine
end

