-- ==== Sys2Proof/Machine/Reads.lean ====
section
/-! DEFINITION. The requests open to every role: PING, the READ requests, SUBSCRIBE and the snapshot requests
(R22, R59, R114, R157, R170, R178, R180, R182, R184). -/

namespace Sys2Proof.Machine

/-- PING (R170): port, role, notice count, snapshot count. -/
def State.pingAnswer (p : Port) (s : State) : Answer :=
  accept [indexByte p, byte (roleCode (s.role p)), byte (s.port p).queue.length, byte (s.port p).snapshot.length]

/-- PING. -/
def execPing (p : Port) (s : State) : Host.Outcome State Fault Refusal := .next (s.query p 0x01 (State.pingAnswer p))

/-- READ CLOCK (R22): match state, halted-from phase, remaining tenths, aborted mark, alliances in play. -/
def State.clockAnswer (s : State) : Answer :=
  let c := s.clock
  accept ([byte c.state.code, orAbsent (fun ph => byte ph.state.code) c.haltedFrom] ++ bytes2 c.tenths
    ++ [flagByte c.aborted, byte c.inPlay.toNat])

/-- READ CLOCK. -/
def execReadClock (p : Port) (s : State) : Host.Outcome State Fault Refusal := .next (s.query p 0x02 State.clockAnswer)

/-- READ SCORES (R157): the alliances in play with the ZERO flag, then A, S and share of each alliance. -/
def State.scoresAnswer (s : State) : Answer :=
  let flags := (if s.zeroFlag then 128 else 0) + s.clock.inPlay.toNat
  accept (byte flags :: allAlliances.flatMap fun a =>
    signed4 (s.accumulators.get a) ++ signed2 (s.published.get a) ++ [byte (s.share a).toNat])

/-- READ SCORES. -/
def execReadScores (p : Port) (s : State) : Host.Outcome State Fault Refusal :=
  .next (s.query p 0x03 State.scoresAnswer)

/-- READ ROBOT (R59): the fields of one robot. -/
def State.robotAnswer (robot : Byte) (s : State) : Answer :=
  match robotOf robot with
  | none => refuse .badArg
  | some r =>
    let x := s.robot r
    let bound := match x.bound with
      | some p => indexByte p
      | none => 0
    let position := match x.waiting with
      | some (_, k) => byte k
      | none => 0
    accept ([bound, orAbsent indexByte x.alliance, byte x.standing.code, byte x.strikes] ++ bytes2 (x.bench / 100)
      ++ [orAbsent (fun l => byte l.code) (s.robotLink r), flagByte (s.enabled r), orAbsent indexByte x.held,
          orAbsent (fun w => indexByte w.1) x.waiting, position])

/-- READ ROBOT. -/
def execReadRobot (p : Port) (robot : Byte) (s : State) : Host.Outcome State Fault Refusal :=
  .next (s.query p 0x04 (State.robotAnswer robot))

/-- The shot count, quota and feed state fields: 0x00 for a kind other than DISPENSER (R172). -/
def State.dispenserFields (s : State) (e : Elem) : List Byte :=
  let x := s.element e
  if x.header.kind = .dispenser then
    [byte x.shots, byte ((s.activeProfile e).quota.getD 0), byte x.feed.code]
  else [0, 0, 0]

/-- READ ELEMENT (R114): the fields of one element. -/
def State.elementAnswer (element : Byte) (s : State) : Answer :=
  match elementOf element with
  | none => refuse .badArg
  | some e =>
    let x := s.element e
    let senses := (if x.senseActive .s0 then 1 else 0) + (if x.senseActive .s1 then 2 else 0)
    accept ([byte x.header.kind.code, indexByte x.header.group, byte (s.activeProfile e).use.code,
        byte x.claim.state.code, orAbsent indexByte x.claim.state.holder, orAbsent indexByte x.claim.lastAlliance,
        byte x.claim.state.causeCode, byte x.claim.waiters.length, byte (motionCode x.gateMotion),
        orAbsent (fun d => byte (directionCode d)) (x.gateMotion.bind Motion.pending), flagByte x.homing, byte senses]
      ++ bytes2 x.pieces ++ bytes2 x.orphans ++ s.dispenserFields e)

/-- READ ELEMENT. -/
def execReadElement (p : Port) (element : Byte) (s : State) : Host.Outcome State Fault Refusal :=
  .next (s.query p 0x05 (State.elementAnswer element))

/-- READ NOTICE (R180): remove and return the oldest entries of the port's queue. -/
def State.takeNotices (p : Port) (count : Byte) (s : State) : State × Answer :=
  if 1 ≤ count.toNat && count.toNat ≤ 16 then
    let q := (s.port p).queue
    let taken := q.take count.toNat
    (s.modifyPort p fun x => { x with queue := q.drop count.toNat },
      accept (byte taken.length :: taken.flatMap Notice.bytes))
  else (s, refuse .badArg)

/-- READ NOTICE. -/
def execReadNotice (p : Port) (count : Byte) (s : State) : Host.Outcome State Fault Refusal :=
  .next (s.request p 0x06 (State.takeNotices p count))

/-- SUBSCRIBE (R178): replace the port's mask; the answer is the stored mask. -/
def State.storeMask (p : Port) (mask : Byte) (s : State) : State × Answer :=
  (s.modifyPort p fun x => { x with subscription := subscriptionOf mask }, accept [byte (subscriptionOf mask).code])

/-- SUBSCRIBE. -/
def execSubscribe (p : Port) (mask : Byte) (s : State) : Host.Outcome State Fault Refusal :=
  .next (s.request p 0x07 (State.storeMask p mask))

/-- The elements that a SNAPSHOT mask names, in order. -/
def namedElements (mask : BitVec 24) : List Elem := allElems.filter fun e => mask.getLsbD e.val

/-- SNAPSHOT (R182): latch one entry for each named element into the port's empty buffer. -/
def State.latchSnapshot (p : Port) (mask : BitVec 24) (s : State) : State × Answer :=
  if mask = 0 then (s, refuse .badArg)
  else if !(s.port p).snapshot.isEmpty then (s, refuse .pending)
  else
    let entries := (namedElements mask).map s.latch
    (s.modifyPort p fun x => { x with snapshot := entries }, accept [byte entries.length])

/-- SNAPSHOT. -/
def execSnapshot (p : Port) (mask : BitVec 24) (s : State) : Host.Outcome State Fault Refusal :=
  .next (s.request p 0x08 (State.latchSnapshot p mask))

/-- READ SNAPSHOT (R184): remove and return every entry of the port's buffer. -/
def State.takeSnapshot (p : Port) (s : State) : State × Answer :=
  let entries := (s.port p).snapshot
  (s.modifyPort p fun x => { x with snapshot := [] }, accept (byte entries.length :: entries.flatMap SnapEntry.bytes))

/-- READ SNAPSHOT. -/
def execReadSnapshot (p : Port) (s : State) : Host.Outcome State Fault Refusal :=
  .next (s.request p 0x09 (State.takeSnapshot p))

end Sys2Proof.Machine
end

