-- ==== Sys2Proof/Machine/Referee.lean ====
section
/-! DEFINITION. The referee's match requests (R10 to R13, R17 to R21) and its requests on robots, scores and elements
(R46, R47, R67, R81, R125, R151, R152). -/

namespace Sys2Proof.Machine

/-- The alliances that have a robot bound (R11). -/
def State.boundAlliances (s : State) : AllianceSet :=
  allAlliances.foldl (fun set a =>
    if allRobots.any fun r => s.isBound r && (s.robot r).alliance = some a then set ||| (1#4 <<< a.val) else set) 0

/-- ARM (R10, R11). -/
def State.armRequest (s : State) : State × Answer :=
  if s.clock.state ≠ .setup then (s, refuse .phase)
  else match s.planFailure with
    | some failing => (s, ⟨.planInvalid, [orAbsent indexByte failing]⟩)
    | none =>
      if !allRobots.any s.isBound then (s, refuse .noRobots)
      else
        let c := { s.clock with state := .armed, inPlay := s.boundAlliances }
        ((s.transition .arm c).armEvent, accept [0])

/-- ARM. -/
def execArm (p : Port) (s : State) : Host.Outcome State Fault Refusal := .next (s.request p 0x50 State.armRequest)

/-- DISARM (R12). -/
def State.disarmRequest (s : State) : State × Answer :=
  if s.clock.state ≠ .armed then (s, refuse .phase)
  else ((s.transition .disarm { s.clock with state := .setup, inPlay := 0 }).disarmEvent, accept [])

/-- DISARM. -/
def execDisarm (p : Port) (s : State) : Host.Outcome State Fault Refusal :=
  .next (s.request p 0x51 State.disarmRequest)

/-- START (R13). -/
def State.startRequest (s : State) : State × Answer :=
  if s.clock.state ≠ .armed then (s, refuse .phase)
  else if s.anyHoming then (s, refuse .notReady)
  else (s.enter .start s.afterStart, accept [])

/-- START. -/
def execStart (p : Port) (s : State) : Host.Outcome State Fault Refusal := .next (s.request p 0x52 State.startRequest)

/-- HALT (R17): the roster takes the halt event (R58); no other block changes state on it (R85, R111, R124). -/
def State.haltRequest (s : State) : State × Answer :=
  match s.clock.state.phase with
  | some ph =>
    ((s.transition .halt { s.clock with state := .halted, haltedFrom := some ph }).announceEnables s, accept [])
  | none => if s.clock.state = .halted then (s, ⟨.already, []⟩) else (s, refuse .phase)

/-- HALT. -/
def execHalt (p : Port) (s : State) : Host.Outcome State Fault Refusal := .next (s.request p 0x53 State.haltRequest)

/-- RESUME (R18): the roster takes the resume event (R58). -/
def State.resumeRequest (s : State) : State × Answer :=
  match s.clock.state, s.clock.haltedFrom with
  | .halted, some ph =>
    ((s.transition .resume { s.clock with state := ph.state, haltedFrom := none }).announceEnables s, accept [])
  | _, _ => (s, refuse .phase)

/-- RESUME. -/
def execResume (p : Port) (s : State) : Host.Outcome State Fault Refusal :=
  .next (s.request p 0x54 State.resumeRequest)

/-- ABORT (R19). -/
def State.abortRequest (s : State) : State × Answer :=
  if s.clock.state.isRunning || s.clock.state = .halted then
    (s.enter .abort { s.clock with state := .finished, aborted := true, haltedFrom := none }, accept [])
  else (s, refuse .phase)

/-- ABORT. -/
def execAbort (p : Port) (s : State) : Host.Outcome State Fault Refusal := .next (s.request p 0x55 State.abortRequest)

/-- FINALISE (R20). -/
def State.finaliseRequest (s : State) : State × Answer :=
  if s.clock.state = .finished then (s.transition .finalise { s.clock with state := .closed }, accept [])
  else (s, refuse .phase)

/-- FINALISE. -/
def execFinalise (p : Port) (s : State) : Host.Outcome State Fault Refusal :=
  .next (s.request p 0x56 State.finaliseRequest)

/-- NEW MATCH (R21). -/
def State.newMatchRequest (s : State) : State × Answer :=
  if s.clock.state = .setup || s.clock.state = .closed then
    ((s.transition .newMatch ⟨.setup, 0, none, false, 0⟩).newMatchEvent, accept [])
  else (s, refuse .phase)

/-- NEW MATCH. -/
def execNewMatch (p : Port) (s : State) : Host.Outcome State Fault Refusal :=
  .next (s.request p 0x57 State.newMatchRequest)

/-- Whether PENALTY and ADJUST are taken in a match state (R46, R152): from AUTO through FINISHED. -/
def MatchState.scoring : MatchState → Bool
  | .auto | .brk | .drive | .endgame | .halted | .finished => true
  | .setup | .armed | .closed => false

/-- The robot record after a penalty, with the reason of its ROBOT notice and the applied bench in seconds (R46, R47,
Table 3-2). `none` for a robot that is OUT. -/
def RobotRecord.penalised (m : MatchState) (benchS : Nat) (x : RobotRecord) : Option (RobotRecord × Reason × Nat) :=
  if x.standing = .out then none
  else if 2 ≤ x.strikes then some ({ x with strikes := 3, standing := .out, bench := 0 }, .out, 0)
  else
    let struck := { x with strikes := x.strikes + 1 }
    if 0 < benchS && m ≠ .finished then
      let bench := max x.bench (benchS * 1000)
      match x.standing with
      | .clear => some ({ struck with standing := .benched, bench := bench }, .benched, benchS)
      | .benched | .out => some ({ struck with bench := bench }, .strike, if x.bench < benchS * 1000 then benchS else 0)
    else some (struck, .strike, 0)

/-- The arbiter is told of a change of standing (R48). -/
def State.tellStanding (r : Robot) (reason : Reason) (s : State) : State :=
  match reason with
  | .out => s.removeRobot r .out
  | .benched => s.removeRobot r .benched
  | _ => s

/-- The points of a penalty are subtracted from the robot's alliance (R151). -/
def State.penaltyPoints (r : Robot) (points : Nat) (s : State) : State :=
  match (s.robot r).alliance with
  | some a => s.addScore a (-(points : Int))
  | none => s

/-- PENALTY (R46 to R48, R151). -/
def State.penaltyRequest (robot points bench : Byte) (s : State) : State × Answer :=
  if !s.clock.state.scoring then (s, refuse .phase)
  else match robotOf robot with
    | some r =>
      if !s.isBound r then (s, refuse .badArg)
      else
        let s := s.penaltyPoints r points.toNat
        match (s.robot r).penalised s.clock.state (min Config.benchLimit bench.toNat) with
        | none => (s, accept [byte (s.robot r).strikes, byte (s.robot r).standing.code, 0])
        | some (x, reason, applied) =>
          (((s.setRobot r x).raiseRobot reason r).tellStanding r reason,
            accept [byte x.strikes, byte x.standing.code, byte applied])
    | none => (s, refuse .badArg)

/-- PENALTY. -/
def execPenalty (p : Port) (robot points bench : Byte) (s : State) : Host.Outcome State Fault Refusal :=
  .next (s.request p 0x60 (State.penaltyRequest robot points bench))

/-- ADJUST (R152). -/
def State.adjustRequest (alliance : Byte) (amount : Half) (s : State) : State × Answer :=
  if !s.clock.state.scoring then (s, refuse .phase)
  else match allianceOf alliance with
    | some a =>
      let d := clampInt (-1000) 1000 amount.toInt
      let s := s.addScore a d
      (s, accept (signed2 d ++ signed4 (s.accumulators.get a)))
    | none => (s, refuse .badArg)

/-- ADJUST. -/
def execAdjust (p : Port) (alliance : Byte) (amount : Half) (s : State) : Host.Outcome State Fault Refusal :=
  .next (s.request p 0x61 (State.adjustRequest alliance amount))

/-- FREE (R67). -/
def State.freeRequest (element : Byte) (s : State) : State × Answer :=
  match elementOf element with
  | some e =>
    match (s.claim e).state with
    | .held _ => (s.endClaim e .freed, accept [])
    | .inert | .free | .returning | .blocked _ => (s, ⟨.already, []⟩)
  | none => (s, refuse .badArg)

/-- FREE. -/
def execFree (p : Port) (element : Byte) (s : State) : Host.Outcome State Fault Refusal :=
  .next (s.request p 0x62 (State.freeRequest element))

/-- An accepted REARM (R81): RETURNING with a cooldown of 0, the REARMED notice ahead of what the end of RETURNING
raises, and a dispenser's feed where R103 allows. -/
def State.rearmElement (e : Elem) (s : State) : State :=
  let s := s.setClaimState e .returning
  let s := s.raise .element (some .rearmed) none (some e) none
  let s := (s.enterReturning e .stopped).finishReturn e
  if s.feedAllowed e then s.modifyElement e (Element.openFeed (s.activeProfile e)) else s

/-- REARM (R81). -/
def State.rearmRequest (element : Byte) (s : State) : State × Answer :=
  match elementOf element with
  | some e =>
    if (s.stop (s.element e).header.group).asserted then (s, refuse .fieldActive)
    else if (s.claim e).state.isBlocked then
      let s := s.rearmElement e
      (s, accept [byte (s.claim e).state.code])
    else (s, refuse .badArg)
  | none => (s, refuse .badArg)

/-- REARM. -/
def execRearm (p : Port) (element : Byte) (s : State) : Host.Outcome State Fault Refusal :=
  .next (s.request p 0x63 (State.rearmRequest element))

/-- The range of TUNE by kind and mode (Table 6-4). -/
def tuneRange (k : Kind) (m : Mode) : Option (Nat × Nat) :=
  match k, m with
  | .dispenser, .shot => some (10, 2000)
  | .dispenser, .wave => some (200, 60000)
  | .goal, .shot => some (1, 5000)
  | .beacon, .rate => some (500, 60000)
  | _, _ => none

/-- Whether TUNE is taken in a match state (R125). -/
def MatchState.tunes : MatchState → Bool
  | .auto | .drive | .endgame | .halted => true
  | .setup | .armed | .brk | .finished | .closed => false

/-- TUNE (R125). -/
def State.tuneRequest (element : Byte) (value : Half) (s : State) : State × Answer :=
  match elementOf element with
  | some e =>
    if !s.clock.state.tunes then (s, refuse .phase)
    else
      let x := s.element e
      match tuneRange x.header.kind x.pulse.mode with
      | some (lo, hi) =>
        let v := clampHalf lo hi value
        (s.modifyElement e fun x => { x with pulse := { x.pulse with pendingTune := some (v, x.pulse.mode) } },
          accept (bytes2 v))
      | none => (s, refuse .badArg)
  | none => (s, refuse .badArg)

/-- TUNE. -/
def execTune (p : Port) (element : Byte) (value : Half) (s : State) : Host.Outcome State Fault Refusal :=
  .next (s.request p 0x64 (State.tuneRequest element value))

end Sys2Proof.Machine
end

