-- ==== Sys2Proof/Machine/Dispatch.lean ====
section
/-! DEFINITION. The meaning of each command: one arm per constructor of `Instr`. -/

namespace Sys2Proof.Machine

def exec (i : Instr) (s : State) : Host.Outcome State Fault Refusal :=
  match i with
  | .hardwareReset straps sense fs => Sys2Proof.Machine.execHardwareReset straps sense fs s
  | .tick sense fs => Sys2Proof.Machine.execTick sense fs s
  | .autoExpiry => Sys2Proof.Machine.execAutoExpiry s
  | .breakExpiry => Sys2Proof.Machine.execBreakExpiry s
  | .endgameThreshold => Sys2Proof.Machine.execEndgameThreshold s
  | .naturalFinish => Sys2Proof.Machine.execNaturalFinish s
  | .feedPendingStart e => Sys2Proof.Machine.execFeedPendingStart e s
  | .benchExpiry r => Sys2Proof.Machine.execBenchExpiry r s
  | .silenceExpiry p => Sys2Proof.Machine.execSilenceExpiry p s
  | .shotExpiry e => Sys2Proof.Machine.execShotExpiry e s
  | .rateExpiry e => Sys2Proof.Machine.execRateExpiry e s
  | .waveHalfChange e => Sys2Proof.Machine.execWaveHalfChange e s
  | .strobeExpiry e => Sys2Proof.Machine.execStrobeExpiry e s
  | .claimTimerExpiry e => Sys2Proof.Machine.execClaimTimerExpiry e s
  | .senseChangeAccepted e input => Sys2Proof.Machine.execSenseChangeAccepted e input s
  | .fieldStopAsserted g => Sys2Proof.Machine.execFieldStopAsserted g s
  | .fieldStopReleased g => Sys2Proof.Machine.execFieldStopReleased g s
  | .gateArrival e => Sys2Proof.Machine.execGateArrival e s
  | .returnEnd e => Sys2Proof.Machine.execReturnEnd e s
  | .ping p => Sys2Proof.Machine.execPing p s
  | .readClock p => Sys2Proof.Machine.execReadClock p s
  | .readScores p => Sys2Proof.Machine.execReadScores p s
  | .readRobot p robot => Sys2Proof.Machine.execReadRobot p robot s
  | .readElement p element => Sys2Proof.Machine.execReadElement p element s
  | .readNotice p count => Sys2Proof.Machine.execReadNotice p count s
  | .subscribe p mask => Sys2Proof.Machine.execSubscribe p mask s
  | .snapshot p mask => Sys2Proof.Machine.execSnapshot p mask s
  | .readSnapshot p => Sys2Proof.Machine.execReadSnapshot p s
  | .claim p robot element => Sys2Proof.Machine.execClaim p robot element s
  | .release p robot element => Sys2Proof.Machine.execRelease p robot element s
  | .withdraw p robot => Sys2Proof.Machine.execWithdraw p robot s
  | .move p robot element direction => Sys2Proof.Machine.execMove p robot element direction s
  | .dispense p robot element => Sys2Proof.Machine.execDispense p robot element s
  | .setTiming p args => Sys2Proof.Machine.execSetTiming p args s
  | .setElement p element args => Sys2Proof.Machine.execSetElement p element args s
  | .setProfile p element phase args => Sys2Proof.Machine.execSetProfile p element phase args s
  | .bind p robot port alliance => Sys2Proof.Machine.execBind p robot port alliance s
  | .unbind p robot => Sys2Proof.Machine.execUnbind p robot s
  | .lineTest p element line width => Sys2Proof.Machine.execLineTest p element line width s
  | .arm p => Sys2Proof.Machine.execArm p s
  | .disarm p => Sys2Proof.Machine.execDisarm p s
  | .start p => Sys2Proof.Machine.execStart p s
  | .halt p => Sys2Proof.Machine.execHalt p s
  | .resume p => Sys2Proof.Machine.execResume p s
  | .abort p => Sys2Proof.Machine.execAbort p s
  | .finalise p => Sys2Proof.Machine.execFinalise p s
  | .newMatch p => Sys2Proof.Machine.execNewMatch p s
  | .penalty p robot points bench => Sys2Proof.Machine.execPenalty p robot points bench s
  | .adjust p alliance amount => Sys2Proof.Machine.execAdjust p alliance amount s
  | .free p element => Sys2Proof.Machine.execFree p element s
  | .rearm p element => Sys2Proof.Machine.execRearm p element s
  | .tune p element value => Sys2Proof.Machine.execTune p element value s
  | .stageOpen p => Sys2Proof.Machine.execStageOpen p s
  | .stagePut p element args => Sys2Proof.Machine.execStagePut p element args s
  | .stageSeal p => Sys2Proof.Machine.execStageSeal p s
  | .stageDiscard p => Sys2Proof.Machine.execStageDiscard p s
  | .unknownAnswer p code => Sys2Proof.Machine.execUnknownAnswer p code s
  | .roleAnswer p code => Sys2Proof.Machine.execRoleAnswer p code s
  | .selectReleased p => Sys2Proof.Machine.execSelectReleased p s
  | .selectActive p => Sys2Proof.Machine.execSelectActive p s
  | .rstActive => Sys2Proof.Machine.execRstActive s

end Sys2Proof.Machine
end

