-- ==== Sys2Proof/Machine/Serial.lean ====
section
/-! DEFINITION. The serial clock of a port (section 9.2): bits on data in taken into bytes, most significant bit first,
bytes into a request, and the answer shifted out. No row of spec/opcode_table.json is a clock: the step takes clocks where
no command waits (notes/assumptions/28.md). -/

namespace Sys2Proof.Machine

/-- Write the frame receiver of a port. -/
def State.setFrame (p : Port) (f : Frame) (s : State) : State := s.modifyPort p fun x => { x with frame := f }

/-- A byte from its bits, most significant first (R162). -/
def byteOfBits (bits : List Bool) : Byte := BitVec.ofNat 8 (bits.foldl (fun n b => 2 * n + b.toNat) 0)

/-- A byte of a frame is complete (R163, R164): the command that the bytes taken in spell reaches its effect point; short
of that, the frame receiver counts argument bytes in ARGUMENTS. -/
def State.byteIn (p : Port) (b : Byte) (s : State) : Host.Outcome State Fault Refusal :=
  let bytes := (s.port p).frame.bytes ++ [b]
  match decodeFrame (s.role p) p bytes with
  | none => .next (s.setFrame p ⟨.arguments, [], bytes, [], 0⟩)
  | some c => exec c (s.setFrame p .begun)

/-- One clock of a port with a level on data in (R162, R165). It is ignored while select is inactive and while RST is
active. In CODE and ARGUMENTS the eighth bit completes a byte; in ANSWER data in is ignored and one more bit has been
shifted out, up to the end of the answer, after which every byte reads 0x00. -/
def State.serialClock (p : Port) (high : Bool) (s : State) : Host.Outcome State Fault Refusal :=
  let f := (s.port p).frame
  if s.rst then .next s
  else match f.receiver with
    | .idle => .next s
    | .code | .arguments =>
      let bits := f.bits ++ [high]
      if bits.length < 8 then .next (s.setFrame p { f with bits := bits }) else s.byteIn p (byteOfBits bits)
    | .answer => .next (s.setFrame p { f with sent := min (8 * f.answer.length) (f.sent + 1) })

end Sys2Proof.Machine
end

