-- ==== Sys2Proof/Machine/Step.lean ====
section
/-! DEFINITION. One step: the command at the front of the queue, or a serial clock. -/

namespace Sys2Proof.Machine

/-- Put a queue of commands into a state. -/
def State.withPending (q : List Instr) (s : State) : State := { s with pending := q }

/-- Put a queue of serial clocks into a state. -/
def State.withClocks (q : List (Port × Bool)) (s : State) : State := { s with clocks := q }

/-- One step: the command at the front of the queue runs on the state with the queue's rest. On an empty queue the
serial clock at the front of the waiting ones is taken, and with none waiting the block idles (notes/assumptions/1.md and
notes/assumptions/28.md). -/
def step (s : State) : Host.Outcome State Fault Refusal :=
  match s.pending, s.clocks with
  | c :: rest, _ => exec c (s.withPending rest)
  | [], (p, high) :: rest => (s.withClocks rest).serialClock p high
  | [], [] => .next s

/-- The state with the command that a word spells put at the front of its queue; unchanged where it spells none. -/
def State.withFetchWord (s : State) (nbits w : Nat) : State :=
  match decodeTableWord nbits w with
  | some c => s.withPending (c :: s.pending)
  | none => s

end Sys2Proof.Machine
end

