-- ==== Sys2Proof/Safety.lean ====
section
/-! DEFINITION. The terms that statements about the machine are made in: the effect point of a request, frames (what
stays the same), and the laws of the manual that every state keeps. -/

namespace Sys2Proof.Machine

/-! ## The effect point of a request (R163, R164) -/

/-- The part is out of reset and a frame has begun on the port with nothing of it clocked. -/
abbrev State.Hears (s : State) (p : Port) : Prop := s.rst = false ∧ s.listening p = true

/-- The state in which the owning block examines a request: what the last tick left is taken, and the frame is
complete (R52, R54, R164; notes/assumptions/2.md). -/
def State.examined (p : Port) (s : State) : State := s.settled.frameComplete p

/-- The port's frame receiver is in ANSWER with the status byte and answer bytes fixed (R165). -/
def State.answered (p : Port) (bytes : List Byte) (s : State) : State :=
  s.modifyPort p fun x => { x with frame := .answering bytes }

/-- An event can act: the part is out of reset (R160). -/
abbrev State.Runs (s : State) : Prop := s.rst = false

/-! ## Serial clocks (R162) -/

/-- The bits of a byte as they are clocked, most significant first. -/
def byteBits (b : Byte) : List Bool := (List.range 8).map b.getMsbD

/-- One port clocked with a list of bits, one after the other. -/
def State.clockAll (p : Port) : List Bool → State → Host.Outcome State Fault Refusal
  | [], s => .next s
  | b :: rest, s =>
    match s.serialClock p b with
    | .next t => t.clockAll p rest
    | stop => stop

/-! ## Frames -/

/-- Clock, timing record, stage, field stop lines, RST, the model's counter, the queue of commands and the waiting serial
clocks are the same. -/
structure State.SameMatch (s t : State) : Prop where
  clock : t.clock = s.clock
  timing : t.timing = s.timing
  stage : t.stage = s.stage
  stops : t.stops = s.stops
  rst : t.rst = s.rst
  boundaries : t.boundaries = s.boundaries
  pending : t.pending = s.pending
  clocks : t.clocks = s.clocks

/-- Accumulators and published scores are the same. -/
structure State.SameScores (s t : State) : Prop where
  accumulators : t.accumulators = s.accumulators
  published : t.published = s.published

/-- A robot record without its mirrors of the claim table. -/
def RobotRecord.own (x : RobotRecord) : RobotRecord := { x with held := none, waiting := none }

/-- A port record without its notice queue. -/
def PortRecord.besideQueue (x : PortRecord) : PortRecord := { x with queue := [] }

/-- Every robot record is the same, mirrors included. -/
abbrev State.SameRobots (s t : State) : Prop := t.robots = s.robots

/-- Every robot record is the same, but for the mirrors of the claim table. -/
abbrev State.SameRosters (s t : State) : Prop := ∀ r, (t.robot r).own = (s.robot r).own

/-- Every port is the same, but for its notice queue. -/
abbrev State.SamePorts (s t : State) : Prop := ∀ q, (t.port q).besideQueue = (s.port q).besideQueue

/-- Every element but the given one is the same. -/
abbrev State.SameElementsBut (e : Elem) (s t : State) : Prop := ∀ e', e' ≠ e → t.element e' = s.element e'

/-- The queue of every port after one record is handed (R177): entered by R179 where the record is due. -/
abbrev State.Handed (n : Notice) (s t : State) : Prop :=
  ∀ q, (t.port q).queue = if s.routes n q then enqueue (s.port q).queue n else (s.port q).queue

/-- The queue of every port after several records are handed in order: those due to the port are entered, one after the
other (R176). -/
abbrev State.HandedAll (ns : List Notice) (s t : State) : Prop :=
  ∀ q, (t.port q).queue = (ns.filter fun n => s.routes n q).foldl enqueue (s.port q).queue

/-- A queue that came from another one by entering records. -/
def QueueGrows (before after : List Notice) : Prop := ∃ ns : List Notice, after = ns.foldl enqueue before

/-! ## Laws that every state keeps -/

/-- R147, R148: each accumulator within its limits, each published score the accumulator clamped into 0 to 9999. -/
abbrev State.TallyOk (s : State) : Prop := ∀ a : Alliance,
  -99999 ≤ s.accumulators.get a ∧ s.accumulators.get a ≤ 99999 ∧
  s.published.get a =
    if s.accumulators.get a < 0 then 0 else if 9999 < s.accumulators.get a then 9999 else s.accumulators.get a

/-- R154, R179: at most 16 entries, the sixteenth an OVERFLOW entry; an OVERFLOW entry only as the last; at most one
SCORE entry per alliance. -/
abbrev queueOk (q : List Notice) : Prop :=
  q.length ≤ 16 ∧ (q.length = 16 → q.getLast?.map Notice.kind = some .overflow) ∧
  (∀ n ∈ q.dropLast, n.kind ≠ .overflow) ∧
  q.Pairwise fun m n => m.kind = .score → n.kind = .score → m.reason ≠ n.reason

/-- R182: the entries in element order, at most one per element. -/
abbrev snapshotOk (b : List SnapEntry) : Prop := b.Pairwise fun x y => x.element.val < y.element.val

/-- R179, R182: every port's notice queue and snapshot buffer. -/
abbrev State.QueuesOk (s : State) : Prop := ∀ p, queueOk (s.port p).queue ∧ snapshotOk (s.port p).snapshot

/-- Table 1-4: the ranges of the timing record. -/
abbrev Timing.Ok (t : Timing) : Prop :=
  t.autoS ≤ 300 ∧ t.breakS ≤ 120 ∧ 10 ≤ t.driveS ∧ t.driveS ≤ 900 ∧ t.endgameS ≤ t.driveS ∧
  (1 ≤ t.autoMul ∧ t.autoMul ≤ 4) ∧ (1 ≤ t.driveMul ∧ t.driveMul ≤ 4) ∧ (1 ≤ t.endgameMul ∧ t.endgameMul ≤ 4) ∧
  100 ≤ t.silence ∧ t.silence ≤ 2000

/-- R3, R8, R19, R32: the ranges of the phase clock, the timing record and the stage. -/
abbrev State.ClockOk (s : State) : Prop :=
  s.timing.Ok ∧ s.clock.remaining ≤ 900000 ∧ (s.clock.haltedFrom.isSome = true ↔ s.clock.state = .halted) ∧
  (s.clock.aborted = true → s.clock.state = .finished ∨ s.clock.state = .closed) ∧
  (s.clock.state = .setup ∨ s.clock.state = .armed → s.clock.remaining = 0) ∧
  (s.clock.state = .setup → s.clock.inPlay = 0) ∧
  (s.stage.state ≠ .empty → s.clock.state.stageOpens = true) ∧
  (s.stage.state = .empty → s.stage.count = 0) ∧ (s.stage.state = .sealed → 0 < s.stage.count)

/-- R43, R47, R49, Table 3-1: the ranges of a robot record. -/
abbrev RobotRecord.Ok (x : RobotRecord) : Prop :=
  x.strikes ≤ 3 ∧ (x.standing = .out ↔ x.strikes = 3) ∧ x.bench ≤ 120000 ∧ (0 < x.bench → x.standing = .benched) ∧
  (x.bound.isSome = true ↔ x.alliance.isSome = true)

/-- R43, R44, R51: robots are bound to bridge ports alone and are CLEAR without strikes in SETUP and ARMED; the timer and
link of a port that is no bridge port stay at 0 and LIVE, and every link is LIVE in SETUP and ARMED. -/
abbrev State.RosterOk (s : State) : Prop :=
  (∀ r, (s.robot r).Ok ∧ ((s.robot r).bound.all s.isBridge = true) ∧
    (s.clock.state = .setup ∨ s.clock.state = .armed → (s.robot r).standing = .clear ∧ (s.robot r).strikes = 0)) ∧
  s.timing.silence ≤ 2000 ∧
  ∀ p, (s.port p).silence ≤ 2000 ∧
    (s.isBridge p = false ∨ s.clock.state = .setup ∨ s.clock.state = .armed →
      (s.port p).link = .live ∧ (s.port p).silenceDue = false) ∧
    (s.isBridge p = false → (s.port p).silence = 0)

/-- The places of a robot in the claim table: elements held and places in wait lists. -/
def State.places (s : State) (r : Robot) : Nat :=
  (allElems.map fun e => (if (s.claim e).state = .held r then 1 else 0) + (s.claim e).waiters.count r).sum

/-- R61, R62, R63, R84: a wait list holds at most four robots and is empty but in HELD and RETURNING; a robot has at most one
place in the whole table; holders and waiters exist only under a live phase; FREE means that the active use is CLAIM
and INERT that it is not; the mirrors agree with the table. -/
abbrev State.ClaimsOk (s : State) : Prop :=
  (∀ e, (s.claim e).waiters.length ≤ 4 ∧
    ((s.claim e).waiters ≠ [] → (s.claim e).state.holder.isSome = true ∨ (s.claim e).state = .returning) ∧
    ((s.claim e).waiters ≠ [] ∨ (s.claim e).state.holder.isSome = true → s.clock.currentLive.isSome = true) ∧
    ((s.claim e).state = .free → (s.activeProfile e).use = .claim) ∧
    ((s.claim e).state = .inert → (s.activeProfile e).use ≠ .claim)) ∧
  ∀ r, s.places r ≤ 1 ∧ (s.robot r).held = s.heldBy r ∧ (s.robot r).waiting = s.waitOf r

/-- R71, R77: "A robot whose standing is BENCHED or OUT, or whose bridge link is STALE, holds no element and waits on none":
every robot with a place in the claim table is bound, CLEAR and on a LIVE link. -/
abbrev State.SeatsOk (s : State) : Prop := ∀ r, 0 < s.places r →
  (s.robot r).bound.isSome = true ∧ (s.robot r).standing = .clear ∧ s.robotLink r = some .live

/-- R86: "While a field stop line is asserted, every element of a kind other than NONE in its group is BLOCKED." -/
abbrev State.FieldStopOk (s : State) : Prop := ∀ e,
  (s.stop (s.element e).header.group).asserted = true → (s.element e).header.kind ≠ .none →
  (s.claim e).state.isBlocked = true

/-- A figure is absent or in a range. -/
abbrev figureIn (lo hi : Nat) (v : Option Nat) : Prop := v.all (fun n => lo ≤ n && n ≤ hi) = true

/-- Table 2-1: a header's kind figures are in range and present for their kind alone. -/
abbrev Header.Ok (h : Header) : Prop :=
  figureIn 100 30000 h.motionLimit ∧ (h.motionLimit.isSome = true ↔ h.kind = .gate) ∧
  figureIn 10 2000 h.brakeTime ∧ (h.brakeTime.isSome = true ↔ h.kind = .gate) ∧
  figureIn 10 2000 h.releaseWidth ∧ (h.releaseWidth.isSome = true ↔ h.kind = .dispenser) ∧
  figureIn 0 5000 h.lampWidth ∧ (h.lampWidth.isSome = true ↔ h.kind = .goal) ∧
  h.s0.filter ≤ 15 ∧ h.s1.filter ≤ 15

/-- Table 2-2: a profile's figures are in range (R28: "A field that is present is always within its range"). -/
abbrev Profile.Ok (p : Profile) : Prop :=
  figureIn 0 255 p.hold ∧ figureIn 0 10000 p.cooldown ∧ figureIn 0 255 p.weight ∧ figureIn 200 60000 p.feedPeriod ∧
  figureIn 500 60000 p.interval ∧ figureIn 0 15 p.quota

/-- R115 to R123: the ranges of a pulse unit, and the output that each mode gives. -/
abbrev PulseUnit.Ok (u : PulseUnit) : Prop :=
  u.period ≤ 65535 ∧ u.count ≤ 65535 ∧ (u.pendingTune.all (fun v => v.1 ≤ 65535) = true) ∧
  (u.mode = .idle → u.run = false ∧ u.output = false) ∧ (u.mode = .shot → u.run = true ∧ u.output = true) ∧
  (u.mode = .rate → u.run = true) ∧ (u.mode = .wave → u.output = (u.run && u.half = .first)) ∧
  (u.mode = .strobe → u.run = true)

/-- R88, R115, R129, Table 5-2: the ranges of an element's counters and timers; a gate that moves is timed by SHOT and
one that brakes by STROBE. -/
abbrev Element.Ok (x : Element) : Prop :=
  x.header.Ok ∧ x.planAuto.Ok ∧ x.planDrive.Ok ∧ x.planEndgame.Ok ∧ x.pulse.Ok ∧
  x.timer.count ≤ 255000 ∧ (x.timer.running = false → x.timer.count = 0) ∧
  x.shots ≤ 255 ∧ x.pieces ≤ 65535 ∧ x.orphans ≤ 65535 ∧
  (x.header.kind = .gate → x.motion.moving.isSome = true → x.pulse.mode = .shot ∧ x.test = none) ∧
  (x.header.kind = .gate → x.motion.pending.isSome = true →
    x.pulse.mode = .strobe ∧ x.pulse.output = false ∧ x.test = none)

/-- The figures and timers of every element and every stage entry. -/
abbrev State.UnitsOk (s : State) : Prop :=
  ∀ e, (s.element e).Ok ∧ (s.stage.entries.get e).all (fun p => decide p.Ok) = true

end Sys2Proof.Machine
end

