-- ==== Sys2Proof/WellFormed.lean ====
section
/-! DEFINITION. Which commands can occur at all. Index operands are in range by their types and argument bytes
may hold any value (a bad one is refused by its rule), so only the two frames without a request are checked:
UNKNOWN answers a code outside Table 9-7, and ROLE a code of the table that some role of the port is not open
to (R163). -/

namespace Sys2Proof

/-- Whether a port can ever be refused a known request by its role: P0 is always REFEREE, the others BRIDGE or
PANEL (R161). -/
def roleRefusable (p : Port) (row : RequestRow) : Bool :=
  if p = 0 then !row.referee else !row.bridge || !row.panel

/-- Well-formed commands. -/
def Instr.wellFormed : Instr → Bool
  | .unknownAnswer _ code => (requestRow code).isNone
  | .roleAnswer p code =>
    match requestRow code with
    | none => false
    | some row => roleRefusable p row
  | _ => true

end Sys2Proof
end

