-- ==== Sys2Proof/Certificates/Slice0/Obligations.lean ====
section
/-! DEFINITION. The statements about the KA24 for the provers. A request is examined on `s.examined p`, the state in which what
the last tick left has been taken and the frame on its port is complete (notes/assumptions/2.md); its answer is `answered`. -/

open Sys2Proof Sys2Proof.Machine

/-! ## The machine -/

/-- One step takes the command at the front of the queue; on an empty queue it takes the serial clock that has waited
longest (notes/assumptions/28.md), and with none waiting the block idles (notes/assumptions/1.md). -/
def Obligations.StepRunsFrontCommand : Prop :=
  (∀ (c : Instr) (rest : List Instr) (s : State),
    step (s.withPending (c :: rest)) = exec c (s.withPending rest)) ∧
  (∀ (s : State) (p : Port) (high : Bool) (rest : List (Port × Bool)), s.pending = [] → s.clocks = (p, high) :: rest →
    step s = (s.withClocks rest).serialClock p high) ∧
  ∀ s : State, s.pending = [] → s.clocks = [] → step s = .next s

/-- The values of a hardware reset, item by item (R3, R8, R23, R43, R51, R60, R88, R115, R129, R136, R142, R147, R160, R161, R179,
R181, R182). The bits of the samples are numbered as in notes/assumptions/20.md; it acts whether or not RST ACTIVE came
before it (notes/assumptions/17.md); the queue of commands and the waiting serial clocks are the model's and stay. -/
def Obligations.HardwareResetTakesResetValues : Prop :=
  ∀ (straps : BitVec 5) (sense : BitVec 48) (fs : BitVec 4) (s : State),
    ∃ t, exec (.hardwareReset straps sense fs) s = .next t ∧
      t.clock = ⟨.setup, 0, none, false, 0⟩ ∧ t.timing = ⟨15, 5, 120, 30, 2, 1, 1, 500⟩ ∧
      (∀ e, let x := t.element e
        x.header = ⟨.none, 0, ⟨false, 0, .active⟩, ⟨false, 0, .active⟩, false, false, none, none, none, none⟩ ∧
        (∀ ph, x.plan ph = ⟨.closed, none, none, none, none, none, none, none, none⟩) ∧
        x.claim = ⟨.inert, none, []⟩ ∧ x.timer = ⟨false, 0⟩ ∧ x.motion = .unknown ∧ x.purpose = .none ∧
        x.shots = 0 ∧ x.quotaMark = false ∧ x.feed = .stopped ∧ x.feedPending = false ∧ x.pieces = 0 ∧ x.orphans = 0 ∧
        x.pulse = ⟨.idle, 0, 0, .first, false, false, none⟩ ∧ x.test = none ∧
        x.s0 = ⟨sense.getLsbD (2 * e.val), none⟩ ∧ x.s1 = ⟨sense.getLsbD (2 * e.val + 1), none⟩ ∧
        t.stage.entries.get e = none ∧ ∀ l, t.driveActive e l = false) ∧
      t.stage.state = .empty ∧
      (∀ r, t.robot r = ⟨none, none, .clear, 0, 0, none, none⟩) ∧
      (∀ g, t.stop g = ⟨!fs.getLsbD g.val, none⟩) ∧
      (∀ a, t.accumulators.get a = 0 ∧ t.published.get a = 0) ∧
      (∀ p, (t.port p).frame = ⟨.idle, [], [], [], 0⟩ ∧ (t.port p).subscription = ⟨false, false, false⟩ ∧
        (t.port p).queue = [] ∧ (t.port p).snapshot = [] ∧ (t.port p).silence = 0 ∧ (t.port p).link = .live ∧
        (t.port p).silenceDue = false ∧ t.attention p = false ∧
        t.role p = if p = 0 then .referee else if straps.getLsbD (p.val - 1) then .bridge else .panel) ∧
      t.rst = false ∧ t.pending = s.pending ∧ t.clocks = s.clocks

/-- The state after reset that the model names meets the laws of Safety.lean, each of which a step keeps. The levels sampled in
it are the model's choice (notes/assumptions/6.md). -/
def Obligations.ResetStateMeetsEveryLaw : Prop :=
  State.reset.TallyOk ∧ State.reset.QueuesOk ∧ State.reset.ClockOk ∧ State.reset.RosterOk ∧ State.reset.ClaimsOk ∧
  State.reset.SeatsOk ∧ State.reset.FieldStopOk ∧ State.reset.UnitsOk

/-- A tick takes what the last one left (notes/assumptions/2.md), then lowers every counting timer and samples every line:
R4, R49, R53, R117, R129, R135, R142. Nothing else changes. -/
def Obligations.TickCountsTimersAndSamplesLines : Prop :=
  ∀ (sense : BitVec 48) (fs : BitVec 4) (s : State), s.Runs →
    ∃ t, exec (.tick sense fs) s = .next t ∧
      let u := s.settled
      let live : Prop := u.clock.state = .auto ∨ u.clock.state = .drive ∨ u.clock.state = .endgame
      t.clock = { u.clock with
        remaining := if live ∨ u.clock.state = .brk then u.clock.remaining - 1 else u.clock.remaining } ∧
      (∀ r, t.robot r = { u.robot r with bench := if live then (u.robot r).bench - 1 else (u.robot r).bench }) ∧
      (∀ q, t.port q =
        if live ∧ u.role q = .bridge ∧ (u.port q).link = .live ∧ 0 < (u.port q).silence then
          { u.port q with silence := (u.port q).silence - 1, silenceDue := (u.port q).silence = 1 }
        else u.port q) ∧
      (∀ e, let x := u.element e
        let y := t.element e
        y = { x with pulse := y.pulse, timer := y.timer, s0 := y.s0, s1 := y.s1 } ∧
        y.timer = (if u.clock.state ≠ .halted ∧ x.timer.running = true then ⟨true, x.timer.count - 1⟩ else x.timer) ∧
        (u.clock.state = .halted ∨ x.pulse.run = false → y.pulse = x.pulse) ∧
        (u.clock.state ≠ .halted → x.pulse.run = true →
          (x.pulse.mode = .idle → y.pulse = x.pulse) ∧
          (x.pulse.mode = .shot ∨ x.pulse.mode = .wave → y.pulse = { x.pulse with count := x.pulse.count - 1 }) ∧
          (x.pulse.mode = .rate → y.pulse = { x.pulse with count := x.pulse.count - 1, output := false }) ∧
          (x.pulse.mode = .strobe → x.pulse.output = false → y.pulse = { x.pulse with count := x.pulse.count - 1 }) ∧
          (x.pulse.mode = .strobe → x.pulse.output = true →
            y.pulse = { x.pulse with mode := .idle, output := false, run := false })) ∧
        y.s0 = x.s0.take x.header.s0.filter (sense.getLsbD (2 * e.val)) ∧
        y.s1 = x.s1.take x.header.s1.filter (sense.getLsbD (2 * e.val + 1))) ∧
      (∀ g, t.stop g = (u.stop g).take (fs.getLsbD g.val)) ∧
      t.timing = u.timing ∧ t.stage = u.stage ∧ u.SameScores t ∧ t.rst = u.rst ∧ t.boundaries = u.boundaries ∧
      t.pending = u.pending ∧ t.clocks = u.clocks

/-- R137 and R142: from a level with no pending change, `k + 1` consecutive samples of the other level leave a hold count of
`F - k`, so that the change is accepted (hold count 0) at the (F + 1)th; a sample of the filtered level cancels. -/
def Obligations.FilterAcceptsAfterFullHold : Prop :=
  (∀ (F k : Nat) (x : SenseInput), x.pending = none → k ≤ F →
    (fun y : SenseInput => y.take F (!x.high))^[k + 1] x = { x with pending := some (F - k) }) ∧
  (∀ (F : Nat) (x : SenseInput), x.take F x.high = { x with pending := none }) ∧
  (∀ (k : Nat) (x : FieldStop), x.pending = none → k ≤ 10 →
    (fun y : FieldStop => y.take x.asserted)^[k + 1] x = { x with pending := some (10 - k) }) ∧
  ∀ x : FieldStop, x.take (!x.asserted) = { x with pending := none }

/-- The model's choice of notes/assumptions/2.md, 3.md and 5.md: where no expiry, accepted change or follow-up is outstanding, nothing
is taken before a request, and an event that is not due, or comes while RST is active, changes nothing. -/
def Obligations.NothingDueNothingTaken : Prop :=
  ∀ s : State,
    ((∀ p, s.silenceDue p = false) → (∀ r, s.benchDue r = false) →
    (∀ e, (s.element e).pulse.shotDue = false ∧ (s.element e).pulse.rateDue = false ∧
      (s.element e).pulse.waveDue = false ∧ (s.element e).pulse.strobeDue = false ∧ (s.element e).timer.due = false ∧
      (s.element e).s0.pending ≠ some 0 ∧ (s.element e).s1.pending ≠ some 0 ∧ (s.element e).feedDue = false ∧
      (s.element e).arrivalDue = false ∧ (s.element e).returnDue = false) →
    (∀ g, (s.stop g).pending ≠ some 0) →
    s.autoDue = false → s.breakDue = false → s.thresholdDue = false → s.finishDue = false →
    s.settled = s) ∧
    (s.rst = true ∨ s.autoDue = false → exec .autoExpiry s = .next s) ∧
    (s.rst = true ∨ s.breakDue = false → exec .breakExpiry s = .next s) ∧
    (s.rst = true ∨ s.thresholdDue = false → exec .endgameThreshold s = .next s) ∧
    (s.rst = true ∨ s.finishDue = false → exec .naturalFinish s = .next s) ∧
    (∀ r, s.rst = true ∨ s.benchDue r = false → exec (.benchExpiry r) s = .next s) ∧
    (∀ p, s.rst = true ∨ s.silenceDue p = false → exec (.silenceExpiry p) s = .next s) ∧
    (∀ g, s.rst = true ∨ s.assertDue g = false → exec (.fieldStopAsserted g) s = .next s) ∧
    (∀ g, s.rst = true ∨ s.releaseDue g = false → exec (.fieldStopReleased g) s = .next s) ∧
    ∀ e, let x := s.element e
      (s.rst = true ∨ x.feedDue = false → exec (.feedPendingStart e) s = .next s) ∧
      (s.rst = true ∨ x.pulse.shotDue = false → exec (.shotExpiry e) s = .next s) ∧
      (s.rst = true ∨ x.pulse.rateDue = false → exec (.rateExpiry e) s = .next s) ∧
      (s.rst = true ∨ x.pulse.waveDue = false → exec (.waveHalfChange e) s = .next s) ∧
      (s.rst = true ∨ x.pulse.strobeDue = false → exec (.strobeExpiry e) s = .next s) ∧
      (s.rst = true ∨ x.timer.due = false → exec (.claimTimerExpiry e) s = .next s) ∧
      (∀ i, s.rst = true ∨ (x.sense i).pending ≠ some 0 → exec (.senseChangeAccepted e i) s = .next s) ∧
      (s.rst = true ∨ x.arrivalDue = false → exec (.gateArrival e) s = .next s) ∧
      (s.rst = true ∨ x.returnEnds = false → exec (.returnEnd e) s = .next s) ∧
      (∀ sense fs, s.rst = true → exec (.tick sense fs) s = .next s)

/-- R52 and R54: a complete frame of a bridge port reloads its silence timer; from a STALE link it returns the link to LIVE
with one ROBOT notice of reason LIVE for each robot bound to it, in slot order. No other port's frame does anything. -/
def Obligations.CompleteFrameReloadsSilence : Prop :=
  ∀ (p : Port) (s : State), let t := s.frameComplete p
    (s.role p ≠ .bridge → t = s) ∧
    (s.role p = .bridge →
      let value : Robot → Int := fun r =>
        if (s.robot r).standing = .clear ∧ s.clock.state.isLive = true then 1 else 0
      let record : Robot → Notice := fun r =>
        ⟨.robot, some .live, some r, none, s.clock.state, s.clock.tenths, some (value r)⟩
      t.port p = { s.port p with
        link := .live, silence := s.timing.silence, silenceDue := false
        queue := if (s.port p).link = .stale then
            ((allRobots.filter fun r => (s.robot r).bound = some p).map record).foldl enqueue (s.port p).queue
          else (s.port p).queue } ∧
      (∀ q, q ≠ p → t.port q = s.port q) ∧ t = { s with ports := t.ports })

/-! ## Notices -/

/-- R177: the ports that a record is due to, by its kind; a record handed changes the queues of those ports alone (R176). -/
def Obligations.NoticeReachesDuePorts : Prop :=
  ∀ (n : Notice) (s : State),
    (∀ p, s.routes n p = true ↔
      ((n.kind = .grant ∨ n.kind = .lost ∨ n.kind = .dropped ∨ n.kind = .robot) ∧
        ∃ r, n.robot = some r ∧ (s.robot r).bound = some p) ∨
      n.kind = .phase ∨
      (n.kind = .score ∧ (s.port p).subscription.score = true) ∨
      (n.kind = .element ∧ (p = 0 ∨ (s.port p).subscription.element = true)) ∨
      (n.kind = .stage ∧ (p = 0 ∨ (s.port p).subscription.stage = true))) ∧
    s.Handed n (s.hand n) ∧ s.SamePorts (s.hand n) ∧ s.hand n = { s with ports := (s.hand n).ports }

/-- R154 and R179: a SCORE record takes the place of an unread SCORE entry of its alliance; any other record is appended below
15 entries, replaced by an OVERFLOW entry at 15, and discarded behind an OVERFLOW entry. -/
def Obligations.QueueTakesRecord : Prop :=
  ∀ (q : List Notice) (n : Notice),
    let unread : Notice → Prop := fun x => n.kind = .score ∧ x.kind = .score ∧ x.reason = n.reason
    ((∃ x ∈ q, unread x) → (enqueue q n).length = q.length ∧
      ∀ (i : Nat) (x : Notice), q[i]? = some x →
        (unread x → (enqueue q n)[i]? = some n) ∧ (¬ unread x → (enqueue q n)[i]? = some x)) ∧
    ((∀ x ∈ q, ¬ unread x) →
      ((∃ x ∈ q, x.kind = .overflow) → enqueue q n = q) ∧
      ((∀ x ∈ q, x.kind ≠ .overflow) → q.length ≤ 14 → enqueue q n = q ++ [n]) ∧
      ((∀ x ∈ q, x.kind ≠ .overflow) → 15 ≤ q.length →
        enqueue q n = q ++ [⟨.overflow, none, none, none, n.state, n.tenths, none⟩]))

/-! ## The score tally -/

/-- R148 with its notice (R154): the sum is clamped, the published score recomputed, one SCORE notice raised where it changed;
no other accumulator and nothing else changes. -/
def Obligations.AmountIsAddedSaturating : Prop :=
  ∀ (a : Alliance) (x : Int) (s : State),
    let t := s.addScore a x
    let sum := s.accumulators.get a + x
    let total : Int := if 99999 < sum then 99999 else if sum < -99999 then -99999 else sum
    let score : Int := if total < 0 then 0 else if 9999 < total then 9999 else total
    t.accumulators.get a = total ∧ t.published.get a = score ∧
    (∀ b, b ≠ a → t.accumulators.get b = s.accumulators.get b ∧ t.published.get b = s.published.get b) ∧
    (score = s.published.get a → t.ports = s.ports) ∧
    (score ≠ s.published.get a →
      s.Handed ⟨.score, some (.alliance a), none, none, s.clock.state, s.clock.tenths, some score⟩ t) ∧
    s.SamePorts t ∧
    t = { s with accumulators := t.accumulators, published := t.published, ports := t.ports }

/-- R105 to R107, R118, R119 and R126: an S0 edge event of a goal counts a piece; in a live phase it is credited to the FIXED alliance under AUTO,
to the holder's alliance under CLAIM, or counted as an orphan; the lamp's SHOT is triggered or retriggered, with a tuned width
if one is pending, but in HALTED, while BLOCKED and during a LINE TEST. -/
def Obligations.GoalPieceCountedCreditedAndLit : Prop :=
  ∀ (e : Elem) (s : State), (s.element e).header.kind = .goal →
    let x := s.element e
    let active := s.activeProfile e
    let amount : Int := ((active.weight.getD 0 * s.currentMultiplier.getD 0 : Nat) : Int)
    let width := x.header.lampWidth.getD 0
    let shot : PulseUnit → Nat → PulseUnit := fun u n =>
      ⟨.shot, n, (match u.pendingTune with
        | some (v, .shot) => v
        | _ => n), u.half, true, true, none⟩
    let lit : Prop := 0 < width ∧ s.clock.state ≠ .halted ∧ x.claim.state.isBlocked = false ∧ x.test = none
    let live : Prop := s.clock.state.isLive = true
    let orphan : Prop := live ∧ active.use = .claim ∧ x.claim.state.holder = none
    let y : Element :=
      { x with
        pieces := min 65535 (x.pieces + 1)
        orphans := if orphan then min 65535 (x.orphans + 1) else x.orphans
        pulse := if lit then shot x.pulse width else x.pulse }
    let counted := s.setElement e y
    (∀ a, live → active.use = .auto → active.credit = some (.fixed a) → s.takePiece e = counted.addScore a amount) ∧
    (∀ r a, live → active.use = .claim → x.claim.state = .held r → (s.robot r).alliance = some a →
      s.takePiece e = counted.addScore a amount) ∧
    (orphan ∨ ¬ live ∨ active.use = .closed → s.takePiece e = counted)

/-! ## The phase clock and its boundaries -/

/-- R14 to R16: the end of a timed phase gives the next one by the DRIVE entry rule (R15), with reason TIME. Into a live phase
the silence expiries of the same tick are taken first, so that the reload does not undo them (notes/assumptions/11.md). -/
def Obligations.TimedPhasesEndByTheirCount : Prop :=
  ∀ s : State, s.Runs →
    let u := s.takeSilences
    let driveEntry : Clock :=
      { s.clock with
        state := if s.timing.endgameS = s.timing.driveS then .endgame else .drive
        remaining := s.timing.driveS * 1000 }
    (s.clock.state = .auto → s.clock.remaining = 0 → 0 < s.timing.breakS →
      exec .autoExpiry s = .next (s.enter .time { s.clock with state := .brk, remaining := s.timing.breakS * 1000 })) ∧
    (s.clock.state = .auto → s.clock.remaining = 0 → s.timing.breakS = 0 →
      exec .autoExpiry s = .next (u.enter .time driveEntry)) ∧
    (s.clock.state = .brk → s.clock.remaining = 0 → exec .breakExpiry s = .next (u.enter .time driveEntry)) ∧
    (s.clock.state = .drive → 0 < s.timing.endgameS → s.clock.remaining = s.timing.endgameS * 1000 →
      exec .endgameThreshold s = .next (u.enter .time { s.clock with state := .endgame })) ∧
    (s.clock.remaining = 0 → s.clock.state = .endgame ∨ s.clock.state = .drive ∧ s.timing.endgameS = 0 →
      exec .naturalFinish s = .next (s.enter .time { s.clock with state := .finished }))

/-- R5, R7, R31, R37, R38, R40, R55, R58, R103, R112, R183: a transition with its boundary. The PHASE notice is handed first, then
the STAGE notice where it is due; a sealed stage overwrites the plan of the live phase entered; timers of bridge ports are
reloaded at a live phase; snapshot entries become VOID where the active profile changed (`v`). Then roster and arbiter take
the boundary: one ROBOT notice for each bound robot whose enabled flag changed, in slot order, ahead of or behind the
arbiter's notices (the order is free, notes/assumptions/7.md; they are BoundarySettlesEveryClaim's). Last the dispensers'
feeds are started afresh, left waiting for a release shot, or stopped. -/
def Obligations.BoundaryAppliesStageAndReloads : Prop :=
  ∀ (reason : Reason) (c : Clock) (s : State),
    c.state.isLive = true ∨ c.state = .brk ∨ c.state = .finished →
    let t := s.enter reason c
    let applied : Prop := s.stage.state = .sealed ∧ c.state.isLive = true
    let voided : Prop := s.stage.state ≠ .empty ∧ c.state = .finished
    let entries : Int := ((s.stage.count : Nat) : Int)
    let phaseNotice : Notice := ⟨.phase, some reason, none, none, c.state, c.tenths, some ((s.clock.state.code : Nat) : Int)⟩
    let stageNotice : List Notice :=
      if applied then [⟨.stage, some .applied, none, none, c.state, c.tenths, some entries⟩]
      else if voided then [⟨.stage, some .void, none, none, c.state, c.tenths, some entries⟩] else []
    ∃ v : State,
      v = { s with clock := c, stage := v.stage, elements := v.elements, ports := v.ports } ∧
      v.stage = (if applied ∨ voided then ⟨.empty, Vector.replicate 24 none⟩ else s.stage) ∧
      (∀ e, let plan : LivePhase → Profile := fun ph =>
          if applied ∧ ph.state = c.state then (s.stage.entries.get e).getD ((s.element e).plan ph)
          else (s.element e).plan ph
        v.element e = { s.element e with
          planAuto := plan .auto, planDrive := plan .drive, planEndgame := plan .endgame }) ∧
      (∀ q, v.port q = { s.port q with
        silence := if c.state.isLive = true ∧ s.role q = .bridge then s.timing.silence else (s.port q).silence
        snapshot := (s.port q).snapshot.map fun y =>
          if s.activeProfile y.element = v.activeProfile y.element then y else ⟨y.element, none⟩
        queue := ((phaseNotice :: stageNotice).filter fun n => s.routes n q).foldl enqueue (s.port q).queue }) ∧
      let w := v.claimsAtBoundary
      let changed : List Notice :=
        (allRobots.filter fun r => (s.robot r).bound.isSome && s.enabled r != v.enabled r).map fun r =>
          ⟨.robot, some .phase, some r, none, c.state, c.tenths, some (if v.enabled r = true then 1 else 0)⟩
      t = { w with elements := t.elements, ports := t.ports, boundaries := s.boundaries + 1 } ∧ w.SamePorts t ∧
      (∃ ns : List Notice, v.HandedAll ns w ∧
        (∀ n ∈ ns, n.kind = .grant ∨ n.kind = .lost ∨ n.kind = .dropped ∨ n.kind = .element) ∧
        (v.HandedAll (changed ++ ns) t ∨ v.HandedAll (ns ++ changed) t)) ∧
      ∀ e, let x := w.element e
        let active := v.activeProfile e
        let n := active.feedPeriod.getD 0
        let dispenser : Prop := x.header.kind = .dispenser
        let allowed : Prop := active.use = .auto ∧ x.claim.state.isBlocked = false
        let waits : Prop := x.feed = .stopped ∧ x.pulse.mode = .shot
        let empty := x.senseActive .s1
        let tuned : Option (Nat × Mode) := match x.feed, x.pulse.pendingTune with
          | .stopped, some (k, .wave) => some (k, .wave)
          | _, _ => none
        (¬ dispenser → t.element e = x) ∧
        (dispenser → ¬ allowed → x.feed = .stopped → t.element e = { x with feedPending := false }) ∧
        (dispenser → ¬ allowed → x.feed ≠ .stopped → t.element e = { x with
          pulse := ⟨.idle, 0, 0, .first, false, false, none⟩, test := none, feed := .stopped, feedPending := false }) ∧
        (dispenser → allowed → waits → t.element e = { x with feedPending := true }) ∧
        (dispenser → allowed → ¬ waits → t.element e = { x with
          pulse := ⟨.wave, n, (n + 1) / 2, .first, !empty, !empty, tuned⟩, test := none
          feed := if empty = true then .held else .running
          feedPending := false })

/-- R83 and Table 4-5 at a boundary into a live phase, R84 at one into BREAK or FINISHED: the arbiter takes the elements in the
order E0 to E23 (`turn`), and of each one, whatever its claim, what becomes of it and which notices it hands: LOST, then
DROPPED for each waiter that the new mask leaves out, with the positions as the list stood (R72). A claim that ends takes
the element into RETURNING (`v`), its wait list is filtered (`w`), and a return that needs no time is then settled
(notes/assumptions/9.md and 10.md). -/
def Obligations.BoundarySettlesEveryClaim : Prop :=
  ∀ s : State, s.clock.state.isLive = true ∨ s.clock.state = .brk ∨ s.clock.state = .finished →
    let live : Prop := s.clock.state.isLive = true
    ∃ turn : Nat → State, turn 0 = s ∧ turn 24 = s.claimsAtBoundary ∧ ∀ e : Elem,
      let a := turn e.val
      let b := turn (e.val + 1)
      let x := s.element e
      let c := x.claim
      let active := s.activeProfile e
      let gate : Prop := x.header.kind = .gate
      let cooldown := active.cooldown.getD 0
      let keep : Robot → Bool := fun r =>
        active.use = .claim && match (s.robot r).alliance with
          | some i => (active.mask.getD 0).getLsbD i.val
          | none => false
      let note : NoticeKind → Robot → Option Int → Notice := fun kind r value =>
        ⟨kind, some .phase, some r, some e, s.clock.state, s.clock.tenths, value⟩
      let drops : List Robot → List Notice := fun ws =>
        (ws.zipIdx.filter fun i => !keep i.1).map fun i => note .dropped i.1 (some ((i.2 + 1 : Nat) : Int))
      let beside : State → State → Prop := fun before after =>
        before.SameElementsBut e after ∧ before.SameMatch after ∧ before.SameScores after ∧ before.SameRosters after ∧
        before.SamePorts after ∧ ∀ r, (after.robot r).held = after.heldBy r ∧ (after.robot r).waiting = after.waitOf r
      a.element e = x ∧ s.SameRosters a ∧ s.SameMatch a ∧
      (¬ live → c.state.isBlocked = true ∨ c.state = .inert → b = a) ∧
      (live ∨ c.state.isBlocked = false ∧ c.state ≠ .inert → beside a b) ∧
      (live → c.state.isBlocked = true → b.element e = { x with claim := { c with lastAlliance := none } } ∧
        b.ports = a.ports) ∧
      (live → c.state = .free ∨ c.state = .inert → b.element e = { x with
          claim := ⟨if active.use = .claim then .free else .inert, none, c.waiters⟩ } ∧ b.ports = a.ports) ∧
      (¬ live → c.state = .free → b.element e = { x with claim := { c with state := .inert } } ∧ b.ports = a.ports) ∧
      (c.state = .returning →
        b.element e = { x with
          claim := ⟨.returning, if live then none else c.lastAlliance, c.waiters.filter keep⟩ } ∧
        a.HandedAll (drops c.waiters) b) ∧
      (∀ r, c.state = .held r → keep r = true →
        b.element e = { x with
          claim := ⟨.held r, none, c.waiters.filter keep⟩
          timer := if active.hold.getD 0 = 0 then ⟨false, 0⟩ else ⟨true, active.hold.getD 0 * 1000⟩ } ∧
        a.HandedAll (drops c.waiters) b) ∧
      ∀ r, c.state = .held r → keep r = false → ∃ v w : State,
        beside a v ∧ a.Handed (note .lost r none) v ∧
        v.element e = { x with
          claim := ⟨.returning, (s.robot r).alliance, c.waiters⟩
          shots := if x.header.kind = .dispenser then 0 else x.shots
          quotaMark := if x.header.kind = .dispenser then false else x.quotaMark
          pulse := if x.header.kind = .beacon then ⟨.idle, 0, 0, .first, false, false, none⟩ else x.pulse
          test := if x.header.kind = .beacon then none else x.test } ∧
        let y := if gate then (v.setTimer e ⟨false, 0⟩).beginReturn e
          else v.setTimer e (if cooldown = 0 then ⟨false, 0⟩ else ⟨true, cooldown⟩)
        beside y w ∧ w.element e = { y.element e with
          claim := { y.claim e with waiters := (y.claim e).waiters.filter keep } } ∧
        y.HandedAll (drops (y.claim e).waiters) w ∧
        let ends : Prop := (w.claim e).state = .returning ∧ (gate → (w.element e).motion = .atRest) ∧
          (¬ gate → cooldown = 0)
        (ends → b = w.settleReturn e) ∧ (¬ ends → b = w)

/-! ## Roster timers -/

/-- R50: a bench timer at 0 makes the robot CLEAR, with one ROBOT notice whose value is the enabled flag after it. -/
def Obligations.BenchExpiryClearsStanding : Prop :=
  ∀ (r : Robot) (s : State), s.Runs → (s.robot r).standing = .benched → (s.robot r).bench = 0 →
    let enabled : Prop := (∃ p, (s.robot r).bound = some p ∧ (s.port p).link = .live) ∧ s.clock.state.isLive = true
    ∃ t, exec (.benchExpiry r) s = .next t ∧
      t = { s with robots := t.robots, ports := t.ports } ∧
      t.robot r = { s.robot r with standing := .clear } ∧ (∀ r', r' ≠ r → t.robot r' = s.robot r') ∧ s.SamePorts t ∧
      (enabled → s.Handed ⟨.robot, some .cleared, some r, none, s.clock.state, s.clock.tenths, some 1⟩ t) ∧
      (¬ enabled → s.Handed ⟨.robot, some .cleared, some r, none, s.clock.state, s.clock.tenths, some 0⟩ t)

/-- R53 with R48, R68, R71 to R73, R95, R96, R131 and R133: at a silence expiry the link becomes STALE, and the robots bound to
the port are taken one by one (`turn`) in slot order, in which the waiters of one list are dropped oldest first (R72). Where
no order is both, it is one of the two, which is free (notes/assumptions/27.md): slot order, or the one (`aged`) in which the
waiters of each list have changed about among themselves. Each robot has one ROBOT notice of reason STALE and value clear,
directly ahead of the LOST or DROPPED notice of what it held or waited on. A claim ends into RETURNING (`v`) with its
holder's alliance recorded and its engine told; a gate begins its return, any other kind takes its cooldown, less the tick
that a claim timer at 0 has already had (notes/assumptions/12.md). A waiter leaves its list, and its DROPPED notice carries
the position it held in the list as it stood before the event (R72). A robot without a place has its ROBOT notice alone, as
has one whose list a gate that jams as its return begins has dropped whole (R95). Then the returns that need no time are
settled (`back`), when and in an order that are the model's (notes/assumptions/26.md). An element that none of the port's
robots holds keeps all but those of them that wait on it. -/
def Obligations.SilenceExpiryRemovesBoundRobots : Prop :=
  ∀ (p : Port) (s : State), s.Runs → (s.port p).silenceDue = true → s.ClaimsOk →
    let cooldown : Elem → Nat := fun e => (s.activeProfile e).cooldown.getD 0
    let bound : Robot → Bool := fun r => (s.robot r).bound = some p
    let note : NoticeKind → Robot → Option Elem → Option Int → Notice := fun kind r e value =>
      ⟨kind, some .stale, some r, e, s.clock.state, s.clock.tenths, value⟩
    let late : Elem → Nat := fun e => if (s.element e).timer = ⟨true, 0⟩ then 1 else 0
    let cooled : Elem → ClaimTimer := fun e => if cooldown e = 0 then ⟨false, 0⟩ else ⟨true, cooldown e - late e⟩
    let slots := allRobots.filter bound
    let mates : Elem → List Robot := fun e => (s.claim e).waiters.filter bound
    ∃ (order aged : List Robot) (turn back : Nat → State) (t : State), exec (.silenceExpiry p) s = .next t ∧
      order = (if Config.oldestFirst s.boundaries s.clock.remaining p.val = true then aged else slots) ∧
      aged.length = slots.length ∧ (∀ e, aged.filter (fun r => r ∈ mates e) = mates e) ∧
      (∀ (n : Nat) (r r' : Robot), slots[n]? = some r → aged[n]? = some r' →
        r' = r ∨ ∃ e, r ∈ mates e ∧ r' ∈ mates e) ∧
      turn 0 = s.setPort p { s.port p with link := .stale, silenceDue := false } ∧
      back 0 = turn order.length ∧ back 16 = t ∧
      (∀ (n : Nat) (r : Robot), order[n]? = some r →
        let a := turn n
        let b := turn (n + 1)
        let robot := note .robot r none (some 0)
        let beside : State → State → Elem → Prop := fun before after e =>
          before.SameElementsBut e after ∧ before.SameMatch after ∧ before.SameScores after ∧
          before.SameRosters after ∧ before.SamePorts after ∧
          ∀ r', (after.robot r').held = after.heldBy r' ∧ (after.robot r').waiting = after.waitOf r'
        (∀ e, (a.claim e).waiters = if (a.claim e).state.isBlocked = true then []
          else (s.claim e).waiters.filter fun w => w ∉ order.take n) ∧
        (∀ e, (a.claim e).state.isBlocked = true → (s.claim e).state.isBlocked = true ∨
          (s.element e).header.kind = .gate ∧ (s.element e).bothLimits = true ∧
          ∃ r' ∈ order.take n, (s.claim e).state = .held r') ∧
        bound r = true ∧
        (a.places r = 0 → b = { a with ports := b.ports } ∧ a.SamePorts b ∧ a.Handed robot b) ∧
        (∀ (e : Elem) (k : Nat), r ∈ (a.claim e).waiters → (s.claim e).waiters[k]? = some r →
          beside a b e ∧
          b.element e = { a.element e with
            claim := { a.claim e with waiters := (a.claim e).waiters.filter fun w => w ≠ r } } ∧
          a.HandedAll [robot, note .dropped r (some e) (some ((k + 1 : Nat) : Int))] b) ∧
        ∀ e, (s.claim e).state = .held r →
          let x := s.element e
          let gate : Prop := x.header.kind = .gate
          a.element e = { x with claim := { x.claim with waiters := (a.claim e).waiters } } ∧
          ∃ v : State, beside a v e ∧ a.HandedAll [robot, note .lost r (some e) none] v ∧
            v.element e = { x with
              claim := ⟨.returning, (s.robot r).alliance, (a.claim e).waiters⟩
              shots := if x.header.kind = .dispenser then 0 else x.shots
              quotaMark := if x.header.kind = .dispenser then false else x.quotaMark
              pulse := if x.header.kind = .beacon then ⟨.idle, 0, 0, .first, false, false, none⟩ else x.pulse
              test := if x.header.kind = .beacon then none else x.test } ∧
            (gate → b = (v.setTimer e ⟨false, 0⟩).beginReturn e) ∧ (¬ gate → b = v.setTimer e (cooled e))) ∧
      (∀ r : Robot,
        let y := back r.val
        let ends : Elem → Prop := fun e => bound r = true ∧ (s.claim e).state = .held r ∧
          (y.claim e).state = .returning ∧
          (if (s.element e).header.kind = .gate then (y.element e).motion = .atRest else cooldown e = 0)
        (∀ e, ends e → back (r.val + 1) = y.settleReturn e) ∧ ((∀ e, ¬ ends e) → back (r.val + 1) = y)) ∧
      (∀ e, (∀ r, bound r = true → (s.claim e).state ≠ .held r) →
        t.element e = { s.element e with
          claim := { s.claim e with waiters := (s.claim e).waiters.filter fun w => !bound w } }) ∧
      (∀ e r, bound r = true → (s.claim e).state = .held r → (s.element e).header.kind ≠ .gate → 0 < cooldown e →
        t.claim e = ⟨.returning, (s.robot r).alliance, (s.claim e).waiters.filter fun w => !bound w⟩ ∧
        (t.element e).timer = ⟨true, cooldown e - late e⟩) ∧
      (t.port p).besideQueue = { (s.port p).besideQueue with link := .stale, silenceDue := false } ∧
      (∀ q, q ≠ p → (t.port q).besideQueue = (s.port q).besideQueue) ∧
      (∀ r, bound r = true → t.places r = 0 ∧ t.enabled r = false) ∧
      s.SameMatch t ∧ s.SameScores t ∧ s.SameRosters t

/-! ## Claims -/

/-- R68, R73, R131, R133: a claim that ends for a cause other than FIELD and JAM. The holder is removed with its alliance recorded, the
LOST notice raised and the engine told (a dispenser clears its quota items by R101, a beacon stops its unit by R108); then
a gate begins its return with its timer stopped, and any other kind loads its cooldown, which ends RETURNING at once
where it is 0. Where a RELEASE, FREE, QUOTA or roster ending comes before the tick that brought the claim timer to 0, that
tick lowers the new count; for PHASE, of which R133 does not speak, it does not (notes/assumptions/12.md). That the engine is told before RETURNING is entered and settled is the model's choice
(notes/assumptions/9.md). An element that is not HELD has no claim to end. -/
def Obligations.ClaimEndsByOneMechanism : Prop :=
  ∀ (e : Elem) (cause : Cause) (s : State),
    ((s.claim e).state.holder = none → s.endClaim e cause = s) ∧
    ∀ r, (s.claim e).state = .held r → cause ≠ .field → cause ≠ .jam →
      let x := s.element e
      let cooldown := (s.activeProfile e).cooldown.getD 0
      let late : Prop := x.timer = ⟨true, 0⟩ ∧ cause ≠ .expired ∧ cause ≠ .phase
      ∃ v : State,
        v.claim e = ⟨.returning, (s.robot r).alliance, (s.claim e).waiters⟩ ∧
        (x.header.kind = .dispenser → v.element e = { x with claim := v.claim e, shots := 0, quotaMark := false }) ∧
        (x.header.kind = .beacon → v.element e = { x with
          claim := v.claim e, pulse := ⟨.idle, 0, 0, .first, false, false, none⟩, test := none }) ∧
        (x.header.kind ≠ .dispenser → x.header.kind ≠ .beacon → v.element e = { x with claim := v.claim e }) ∧
        s.Handed ⟨.lost, some cause.reason, some r, some e, s.clock.state, s.clock.tenths, none⟩ v ∧
        (∀ r', (v.robot r').held = v.heldBy r' ∧ (v.robot r').waiting = v.waitOf r') ∧
        s.SameElementsBut e v ∧ s.SameMatch v ∧ s.SameScores v ∧ s.SameRosters v ∧ s.SamePorts v ∧
        (x.header.kind = .gate → s.endClaim e cause = (((v.setTimer e ⟨false, 0⟩).beginReturn e).finishReturn e)) ∧
        (x.header.kind ≠ .gate → 0 < cooldown → late → s.endClaim e cause = v.setTimer e ⟨true, cooldown - 1⟩) ∧
        (x.header.kind ≠ .gate → 0 < cooldown → ¬ late → s.endClaim e cause = v.setTimer e ⟨true, cooldown⟩) ∧
        (x.header.kind ≠ .gate → cooldown = 0 → s.endClaim e cause = (v.setTimer e ⟨false, 0⟩).settleReturn e)

/-- R79 and R80: a FIELD or JAM cause by the claim state it finds. Notices go in the order LOST, DROPPED oldest first with the
positions as the list stood (R72), ELEMENT. -/
def Obligations.BlockCauseIsTaken : Prop :=
  ∀ (e : Elem) (b : BlockCause) (s : State),
    let x := s.element e
    let c := s.claim e
    let t := s.takeBlock e b
    let note : NoticeKind → Option Reason → Option Robot → Option Int → Notice := fun kind reason robot value =>
      ⟨kind, reason, robot, some e, s.clock.state, s.clock.tenths, value⟩
    let drops := c.waiters.mapIdx fun k r => note .dropped (some b.cause.reason) (some r) (some ((k + 1 : Nat) : Int))
    let blocked := note .element (some .blocked) none (some ((b.code : Nat) : Int))
    (∀ r, c.state = .held r →
      t.claim e = ⟨.blocked b, (s.robot r).alliance, []⟩ ∧ (t.element e).timer = ⟨false, 0⟩ ∧
      s.HandedAll (note .lost (some b.cause.reason) (some r) none :: drops ++ [blocked]) t ∧
      t.element e = { x with
        claim := t.claim e, timer := ⟨false, 0⟩
        shots := if x.header.kind = .dispenser then 0 else x.shots
        quotaMark := if x.header.kind = .dispenser then false else x.quotaMark
        pulse := if x.header.kind = .beacon then ⟨.idle, 0, 0, .first, false, false, none⟩ else x.pulse
        test := if x.header.kind = .beacon then none else x.test }) ∧
    (c.state = .inert ∨ c.state = .free ∨ c.state = .returning →
      t.element e = { x with claim := ⟨.blocked b, c.lastAlliance, []⟩, timer := ⟨false, 0⟩ } ∧
      s.HandedAll (drops ++ [blocked]) t) ∧
    (c.state.isBlocked = true → t.element e = { x with claim := { c with state := .blocked b } } ∧ t.ports = s.ports) ∧
    (∀ r, (t.robot r).held = t.heldBy r ∧ (t.robot r).waiting = t.waitOf r) ∧
    s.SameElementsBut e t ∧ s.SameMatch t ∧ s.SameScores t ∧ s.SameRosters t ∧ s.SamePorts t

/-- R71 and R72: a robot that the roster removes loses the claim it holds by the common ending, or leaves the wait list it
stands in with one DROPPED notice, or nothing happens. -/
def Obligations.RosterRemovesRobot : Prop :=
  ∀ (r : Robot) (cause : Cause) (s : State), s.ClaimsOk →
    (∀ e, (s.claim e).state = .held r → s.removeRobot r cause = s.endClaim e cause) ∧
    (∀ (e : Elem) (k : Nat), (s.claim e).waiters[k]? = some r →
      let t := s.removeRobot r cause
      t.element e = { s.element e with claim := { s.claim e with waiters := (s.claim e).waiters.eraseIdx k } } ∧
      s.SameElementsBut e t ∧ t.places r = 0 ∧
      s.Handed ⟨.dropped, some cause.reason, some r, some e, s.clock.state, s.clock.tenths,
        some ((k + 1 : Nat) : Int)⟩ t ∧
      s.SameMatch t ∧ s.SameScores t ∧ s.SameRosters t ∧ s.SamePorts t) ∧
    (s.places r = 0 → s.removeRobot r cause = s)

/-- R76: the waiter chosen has the lowest key of same-alliance flag, strikes and arrival position, compared in that order; no
one is chosen from an empty list alone. -/
def Obligations.PrecedenceKeyChooses : Prop :=
  ∀ (s : State) (e : Elem),
    let ws := (s.claim e).waiters
    let flag : Robot → Nat := fun r =>
      if (s.claim e).lastAlliance ≠ none ∧ (s.robot r).alliance = (s.claim e).lastAlliance then 1 else 0
    let strikes : Robot → Nat := fun r => (s.robot r).strikes
    (s.nextHolder e = none ↔ ws = []) ∧
    ∀ r, s.nextHolder e = some r → ∃ k : Nat, ws[k]? = some r ∧
      ∀ (j : Nat) (w : Robot), ws[j]? = some w →
        flag r < flag w ∨
        flag r = flag w ∧ (strikes r < strikes w ∨ strikes r = strikes w ∧ k ≤ j)

/-- R75, R77, R93, R120 and R132: the end of RETURNING, alone or settled in the same step as the arrival or the cooldown's
expiry that brings it (notes/assumptions/19.md). Where the active use is not CLAIM the element is INERT and its waiters are
dropped; where it is and none waits, it is FREE; else it is granted to the robot of R76 with one GRANT notice, and a
beacon's unit is started in RATE. -/
def Obligations.ReturnEndSettlesElement : Prop :=
  ∀ (e : Elem) (s : State),
    let x := s.element e
    let c := s.claim e
    let active := s.activeProfile e
    let gate : Prop := x.header.kind = .gate
    let rate : PulseUnit → Nat → PulseUnit := fun u n =>
      ⟨.rate, n, n, u.half, false, true, match u.pendingTune with
        | some (v, .rate) => some (v, .rate)
        | _ => none⟩
    let t := s.settleReturn e
    c.state = .returning →
    (s.Runs → (gate → x.motion = .atRest) → x.timer.running = false → exec (.returnEnd e) s = .next t) ∧
    (s.Runs → gate → x.motion = .movingBack → x.senseActive .s0 = true →
      exec (.returnEnd e) s = .next ((s.setElement e { x with
        pulse := ⟨.idle, 0, 0, .first, false, false, none⟩, test := none, motion := .atRest
        purpose := .none }).settleReturn e)) ∧
    (s.Runs → ¬ gate → x.timer = ⟨true, 0⟩ →
      exec (.returnEnd e) s = .next ((s.setElement e { x with timer := ⟨false, 0⟩ }).settleReturn e)) ∧
    (active.use ≠ .claim →
      t.element e = { x with claim := ⟨.inert, c.lastAlliance, []⟩, timer := ⟨false, 0⟩ } ∧
      s.HandedAll (c.waiters.mapIdx fun k r =>
        ⟨.dropped, some .phase, some r, some e, s.clock.state, s.clock.tenths, some ((k + 1 : Nat) : Int)⟩) t) ∧
    (active.use = .claim → c.waiters = [] →
      t.element e = { x with claim := ⟨.free, c.lastAlliance, []⟩, timer := ⟨false, 0⟩ } ∧ t.ports = s.ports) ∧
    (∀ r, active.use = .claim → s.nextHolder e = some r →
      let y : Element := { x with
        claim := ⟨.held r, c.lastAlliance, c.waiters.filter (· ≠ r)⟩
        timer := if active.hold.getD 0 = 0 then ⟨false, 0⟩ else ⟨true, active.hold.getD 0 * 1000⟩ }
      t.element e = (match x.header.kind with
        | .dispenser => { y with shots := 0, quotaMark := false }
        | .beacon => { y with pulse := rate x.pulse (active.interval.getD 0), test := none }
        | .none | .gate | .goal => y) ∧
      s.Handed ⟨.grant, none, some r, some e, s.clock.state, s.clock.tenths,
        some ((active.hold.getD 0 : Nat) : Int)⟩ t) ∧
    (∀ r, (t.robot r).held = t.heldBy r ∧ (t.robot r).waiting = t.waitOf r) ∧
    s.SameElementsBut e t ∧ s.SameMatch t ∧ s.SameScores t ∧ s.SameRosters t ∧ s.SamePorts t

/-- R132, R133, R69 and R118: a claim timer at 0 is stopped and ends a claim with EXPIRED; in RETURNING its expiry is one event
with the end of RETURNING (notes/assumptions/19.md); a SHOT at 0 makes the unit IDLE, and its owner takes the expiry: the line interface during a
LINE TEST (R141), a moving gate as a jam (R95), a dispenser at its quota by ending the claim (R101). -/
def Obligations.TimerAndShotExpiriesReachOwners : Prop :=
  ∀ (e : Elem) (s : State), s.Runs →
    let x := s.element e
    (x.timer = ⟨true, 0⟩ →
      ((x.claim.state.holder.isSome = true →
        exec (.claimTimerExpiry e) s = .next ((s.setElement e { x with timer := ⟨false, 0⟩ }).endClaim e .expired)) ∧
      (x.claim.state = .returning → (x.header.kind = .gate → x.motion = .atRest) →
        exec (.claimTimerExpiry e) s = .next ((s.setElement e { x with timer := ⟨false, 0⟩ }).settleReturn e)) ∧
      (x.claim.state = .returning → x.header.kind = .gate → x.motion ≠ .atRest →
        exec (.claimTimerExpiry e) s = .next (s.setElement e { x with timer := ⟨false, 0⟩ })) ∧
      (x.claim.state.holder = none → x.claim.state ≠ .returning →
        exec (.claimTimerExpiry e) s = .next (s.setElement e { x with timer := ⟨false, 0⟩ })))) ∧
    (x.pulse.mode = .shot → x.pulse.count = 0 →
      let idle : Element := { x with pulse := { x.pulse with mode := .idle, output := false, run := false }, test := none }
      let jams : Prop := x.test = none ∧ x.header.kind = .gate ∧ (x.motion = .movingOut ∨ x.motion = .movingBack)
      let spends : Prop := x.test = none ∧ x.header.kind = .dispenser ∧ x.quotaMark = true
      (jams → exec (.shotExpiry e) s = .next ((s.setElement e idle).jam e)) ∧
      (spends → exec (.shotExpiry e) s =
        .next ((s.setElement e { idle with quotaMark := false }).endClaim e .quota)) ∧
      (¬ jams → ¬ spends → exec (.shotExpiry e) s = .next (s.setElement e idle)))

/-! ## Engines and pulse units -/

/-- R109, R120, R121, R123, R126 at count 0. RATE: the count is reloaded, a tuned value becoming the period, and a beacon's
interval is credited to its holder's alliance in a live phase. WAVE: the half changes; its output stays inactive while
the run flag is clear (notes/assumptions/21.md). STROBE: the output is active, and a braking gate starts its motion (R94). -/
def Obligations.PeriodicExpiriesAct : Prop :=
  ∀ (e : Elem) (s : State), s.Runs → (s.element e).pulse.count = 0 →
    let x := s.element e
    let u := x.pulse
    let put : PulseUnit → State := fun w => s.setElement e { x with pulse := w }
    let active := s.activeProfile e
    let amount : Int := ((active.weight.getD 0 * s.currentMultiplier.getD 0 : Nat) : Int)
    (u.mode = .rate →
      let w : PulseUnit := match u.pendingTune with
        | some (v, .rate) => { u with period := v, count := v, output := true, pendingTune := none }
        | _ => { u with count := u.period, output := true }
      (∀ r a, x.header.kind = .beacon → x.claim.state = .held r → (s.robot r).alliance = some a →
        s.clock.state.isLive = true → exec (.rateExpiry e) s = .next ((put w).addScore a amount)) ∧
      (x.header.kind ≠ .beacon ∨ x.claim.state.holder = none ∨ s.clock.state.isLive = false →
        exec (.rateExpiry e) s = .next (put w))) ∧
    (u.mode = .wave →
      (u.half = .first →
        exec (.waveHalfChange e) s = .next (put { u with half := .second, count := u.period / 2, output := false })) ∧
      (u.half = .second → (∀ v, u.pendingTune ≠ some (v, .wave)) →
        exec (.waveHalfChange e) s =
          .next (put { u with half := .first, count := (u.period + 1) / 2, output := u.run })) ∧
      (∀ v, u.half = .second → u.pendingTune = some (v, .wave) →
        exec (.waveHalfChange e) s = .next (put
          { u with half := .first, period := v, count := (v + 1) / 2, output := u.run, pendingTune := none }))) ∧
    (u.mode = .strobe → u.output = false →
      let fired := put { u with output := true }
      (∀ d, x.header.kind = .gate → x.motion = .braking d →
        exec (.strobeExpiry e) s = .next ((fired.startMotion e d x.purpose).finishReturn e)) ∧
      (x.header.kind ≠ .gate ∨ (∀ d, x.motion ≠ .braking d) → exec (.strobeExpiry e) s = .next fired))

/-- R103, R104, R121: a feed that waited for its release shot starts in WAVE if its conditions still hold, held at once
while S1 is active; else its mark is cleared alone. R93: a moving gate whose target limit is active stops its unit and
stands there, and an arrival at rest ends RETURNING. The follow-ups are commands of their own (notes/assumptions/19.md). -/
def Obligations.FollowUpsFeedStartAndArrival : Prop :=
  ∀ (e : Elem) (s : State), s.Runs →
    let x := s.element e
    let active := s.activeProfile e
    let n := active.feedPeriod.getD 0
    let tuned : Option (Nat × Mode) := match x.pulse.pendingTune with
      | some (v, .wave) => some (v, .wave)
      | _ => none
    (x.header.kind = .dispenser → x.feedPending = true → x.pulse.mode ≠ .shot →
      let allowed : Prop := active.use = .auto ∧ x.claim.state.isBlocked = false
      (allowed → x.senseActive .s1 = false → exec (.feedPendingStart e) s = .next (s.setElement e { x with
        pulse := ⟨.wave, n, (n + 1) / 2, .first, true, true, tuned⟩, test := none, feed := .running,
        feedPending := false })) ∧
      (allowed → x.senseActive .s1 = true → exec (.feedPendingStart e) s = .next (s.setElement e { x with
        pulse := ⟨.wave, n, (n + 1) / 2, .first, false, false, tuned⟩, test := none, feed := .held,
        feedPending := false })) ∧
      (¬ allowed → exec (.feedPendingStart e) s = .next (s.setElement e { x with feedPending := false }))) ∧
    (x.header.kind = .gate →
      let arrived : Motion → Element := fun m => { x with
        pulse := ⟨.idle, 0, 0, .first, false, false, none⟩, test := none, motion := m, purpose := .none }
      (x.motion = .movingOut → x.senseActive .s1 = true →
        exec (.gateArrival e) s = .next (s.setElement e (arrived .atOut))) ∧
      (x.motion = .movingBack → x.senseActive .s0 = true → x.claim.state ≠ .returning →
        exec (.gateArrival e) s = .next (s.setElement e (arrived .atRest))) ∧
      (x.motion = .movingBack → x.senseActive .s0 = true → x.claim.state = .returning →
        exec (.gateArrival e) s = .next ((s.setElement e (arrived .atRest)).settleReturn e)))

/-- R90, R92, R95, R96 and R118: the start of a motion, with the jam check before the target check, its SHOT with the motion limit;
the jam; the begin of a return by the motion state. That a return that begins AT_REST leaves no purpose is the model's choice
(notes/assumptions/31.md). -/
def Obligations.GateMotionsStartJamAndReturn : Prop :=
  ∀ (e : Elem) (s : State),
    let x := s.element e
    let unit : PulseUnit → Element := fun u => { x with pulse := u, test := none }
    let stopped : PulseUnit := ⟨.idle, 0, 0, .first, false, false, none⟩
    let shot : PulseUnit → Nat → PulseUnit := fun u n =>
      ⟨.shot, n, (match u.pendingTune with
        | some (v, .shot) => v
        | _ => n), u.half, true, true, none⟩
    let limit := x.header.motionLimit.getD 0
    let brake := x.header.brakeTime.getD 0
    (s.jam e = (s.setElement e { unit stopped with motion := .stopped, purpose := .none }).takeBlock e .jam) ∧
    (∀ (d : Direction) (purpose : Purpose),
      let target := x.senseActive (if d = .out then .s1 else .s0)
      (x.senseActive .s0 = true → x.senseActive .s1 = true → s.startMotion e d purpose = s.jam e) ∧
      (target = true → (x.senseActive .s0 = false ∨ x.senseActive .s1 = false) →
        s.startMotion e d purpose = s.setElement e
          { unit stopped with motion := if d = .out then .atOut else .atRest, purpose := .none }) ∧
      (target = false → s.startMotion e d purpose = s.setElement e
        { unit (shot x.pulse limit) with
          motion := if d = .out then .movingOut else .movingBack, purpose := purpose })) ∧
    (x.motion = .atRest → s.beginReturn e = s.setElement e { x with purpose := .none }) ∧
    (x.motion = .atOut ∨ x.motion = .unknown ∨ x.motion = .stopped → s.beginReturn e = s.startMotion e .back .ret) ∧
    (x.motion = .movingBack → s.beginReturn e = s.setElement e { x with purpose := .ret }) ∧
    (x.motion = .movingOut → s.beginReturn e = s.setElement e
      { unit ⟨.strobe, brake, brake, .first, false, true, none⟩ with motion := .braking .back, purpose := .ret }) ∧
    ∀ d, x.motion = .braking d →
      s.beginReturn e = s.setElement e { x with motion := .braking .back, purpose := .ret }

/-! ## Lines -/

/-- R137 and R138: an accepted change sets the filtered level; the element's engine then acts by kind: a gate checks its two
limits (R95), S0 of a dispenser or goal counts a piece on the edge chosen (R105), S1 of a dispenser holds and continues
the feed (R104, R122), and nothing else happens: an arrival is a command of its own (notes/assumptions/19.md), taken
after the jam check of this one (notes/assumptions/8.md). -/
def Obligations.SenseChangeReachesEngine : Prop :=
  ∀ (e : Elem) (i : SenseId) (s : State), s.Runs → ((s.element e).sense i).pending = some 0 →
    let y := (s.element e).setSense i ⟨!((s.element e).sense i).high, none⟩
    let v := s.setElement e y
    let k := y.header.kind
    let nowActive := y.senseActive i
    let piece : Prop := i = .s0 ∧ (k = .dispenser ∨ k = .goal) ∧
      (y.header.s0.edge = .any ∨ (y.header.s0.edge = .active ↔ nowActive = true))
    let jams : Prop := k = .gate ∧ y.motion ≠ .unknown ∧ y.motion ≠ .stopped ∧ y.senseActive .s0 = true ∧
      y.senseActive .s1 = true
    let holds : Prop := i = .s1 ∧ k = .dispenser ∧ y.feed = .running ∧ nowActive = true
    let continues : Prop := i = .s1 ∧ k = .dispenser ∧ y.feed = .held ∧ nowActive = false
    (jams → exec (.senseChangeAccepted e i) s = .next (v.jam e)) ∧
    (piece → k = .goal → exec (.senseChangeAccepted e i) s = .next (v.takePiece e)) ∧
    (piece → k = .dispenser →
      exec (.senseChangeAccepted e i) s = .next (s.setElement e { y with pieces := min 65535 (y.pieces + 1) })) ∧
    (holds → exec (.senseChangeAccepted e i) s = .next (s.setElement e { y with
      feed := .held
      pulse := if y.pulse.mode = .wave ∧ y.pulse.run = true then { y.pulse with run := false, output := false }
        else y.pulse })) ∧
    (continues → exec (.senseChangeAccepted e i) s = .next (s.setElement e { y with
      feed := .running
      pulse := if y.pulse.mode = .wave ∧ y.pulse.run = false then
          { y.pulse with run := true, output := decide (y.pulse.half = .first) }
        else y.pulse })) ∧
    (¬ jams → ¬ piece → ¬ holds → ¬ continues → exec (.senseChangeAccepted e i) s = .next v)

/-- R143 with R72, R79, R80, R99, R110 and R141: the line is asserted and its FIELD_STOP notice raised first; every element of
the group of a kind other than NONE is BLOCKED with cause FIELD and its unit stopped, its notices in the order LOST, DROPPED
oldest first, ELEMENT BLOCKED following element by element from E0 to E23, none for one that was BLOCKED already; the robot
records mirror the claim table. One of kind NONE loses its line test; other groups are untouched. That an element written
out of the group by SET ELEMENT is untouched too (R143), where R146 has the assertion block it, is the model's choice
(notes/assumptions/30.md). R144: a release changes the line and raises its notice, and no element is touched. -/
def Obligations.FieldStopBlocksItsGroup : Prop :=
  (∀ (g : Group) (s : State), s.Runs → s.stop g = ⟨true, some 0⟩ →
    ∃ t, exec (.fieldStopReleased g) s = .next t ∧
      t.stop g = ⟨false, none⟩ ∧ (∀ h, h ≠ g → t.stop h = s.stop h) ∧
      s.Handed ⟨.element, some .fieldClear, none, none, s.clock.state, s.clock.tenths, some ((g.val : Nat) : Int)⟩ t ∧
      s.SamePorts t ∧ t = { s with stops := t.stops, ports := t.ports }) ∧
  ∀ (g : Group) (s : State), s.Runs → s.stop g = ⟨false, some 0⟩ →
    ∃ t, exec (.fieldStopAsserted g) s = .next t ∧
      t.stop g = ⟨true, none⟩ ∧ (∀ h, h ≠ g → t.stop h = s.stop h) ∧
      (let note : NoticeKind → Reason → Option Robot → Option Elem → Option Int → Notice :=
          fun kind reason robot element value =>
            ⟨kind, some reason, robot, element, s.clock.state, s.clock.tenths, value⟩
        let own : Elem → List Notice := fun e =>
          let lost : List Notice := match (s.claim e).state with
            | .held r => [note .lost .field (some r) (some e) none]
            | _ => []
          let drops := (s.claim e).waiters.mapIdx fun k r =>
            note .dropped .field (some r) (some e) (some ((k + 1 : Nat) : Int))
          if (s.claim e).state.isBlocked = true then []
          else lost ++ drops ++ [note .element .blocked none (some e) (some 1)]
        let blocked := allElems.filter fun e =>
          (s.element e).header.group = g && (s.element e).header.kind ≠ .none
        s.HandedAll (note .element .fieldStop none none (some ((g.val : Nat) : Int)) :: blocked.flatMap own) t ∧
        (blocked = [] → t.robots = s.robots) ∧
        (blocked ≠ [] → ∀ r, (t.robot r).held = t.heldBy r ∧ (t.robot r).waiting = t.waitOf r)) ∧
      (∀ e, let x := s.element e
        let y := t.element e
        let stopped : PulseUnit := ⟨.idle, 0, 0, .first, false, false, none⟩
        let k := x.header.kind
        (x.header.group ≠ g → y = x) ∧
        (x.header.group = g → k = .none →
          y = { x with test := none, pulse := if x.test = none then x.pulse else stopped }) ∧
        (x.header.group = g → k ≠ .none →
          (∀ r, x.claim.state = .held r → y.claim.lastAlliance = (s.robot r).alliance) ∧
          (x.claim.state.holder = none → y.claim.lastAlliance = x.claim.lastAlliance) ∧
          y = { x with
            claim := ⟨.blocked .field, y.claim.lastAlliance,
              if x.claim.state.isBlocked = true then x.claim.waiters else []⟩
            timer := if x.claim.state.isBlocked = true then x.timer else ⟨false, 0⟩
            motion := if k = .gate then .stopped else x.motion
            purpose := if k = .gate then .none else x.purpose
            shots := if k = .dispenser ∧ x.claim.state.holder.isSome = true then 0 else x.shots
            quotaMark := if k = .dispenser ∧ x.claim.state.holder.isSome = true then false else x.quotaMark
            feed := if k = .dispenser then .stopped else x.feed
            feedPending := if k = .dispenser then false else x.feedPending
            pulse := stopped, test := none } ∧
          ∀ l, t.driveActive e l = false)) ∧
      t = { s with elements := t.elements, robots := t.robots, stops := t.stops, ports := t.ports } ∧
      s.SameRosters t ∧ s.SamePorts t

/-- R89, R90, R139 and R160: a line is inactive under its group's field stop, in HALTED and while RST is active; else a LINE
TEST routes the unit to the line it names alone, and the engine drives the others; the two lines of a gate are never
active together; a pin is low while RST is active and otherwise shows its line through its polarity. -/
def Obligations.DriveLinesFollowRequestsUnlessForced : Prop :=
  ∀ (e : Elem) (l : Line) (s : State),
    let x := s.element e
    let forced : Prop := (s.stop x.header.group).asserted = true ∨ s.clock.state = .halted ∨ s.rst = true
    let requested : Prop := match x.header.kind, l with
      | .gate, .d0 => x.motion = .movingOut
      | .gate, .d1 => x.motion = .movingBack
      | .dispenser, .d0 => x.pulse.output = true
      | .goal, .d0 => x.pulse.output = true
      | .beacon, .d0 => x.claim.state.holder.isSome = true
      | _, _ => False
    (forced → s.driveActive e l = false) ∧
    (¬ forced → ∀ m, x.test = some m → (s.driveActive e l = true ↔ m = l ∧ x.pulse.output = true)) ∧
    (¬ forced → x.test = none → (s.driveActive e l = true ↔ requested)) ∧
    (x.header.kind = .gate → s.driveActive e .d0 = true → s.driveActive e .d1 = false) ∧
    (s.rst = true → s.drivePin e l = false) ∧
    (s.rst = false → s.drivePin e l =
      (s.driveActive e l != (match l with | .d0 => x.header.d0Low | .d1 => x.header.d1Low)))

/-! ## Frames and requests of every role -/

/-- R160, R162, R163, R165, R166, R167: select begins a frame in CODE and ends it from any state; SELECT ACTIVE on a receiver that is
not IDLE changes nothing (notes/assumptions/3.md). A completed code outside Table 9-7 is answered UNKNOWN with no answer
bytes, and one whose request is not open to the port's role ROLE with its answer bytes zero. RST abandons every frame and
leaves every other register (notes/assumptions/5.md). A clock is ignored in IDLE and under RST; short of the eighth it adds
a bit to the byte under way; in ANSWER it shifts one bit out. The serial clock, for which the table of commands has no row,
and the count of bits shifted out, which stops at the answer's end, are the model's (notes/assumptions/28.md). Data out
reads 0x00 while the request comes in and past the answer's end, and else the answer, most significant bit first. -/
def Obligations.FramesBeginEndAndAreRefused : Prop :=
  ∀ (p : Port) (s : State),
    let f := (s.port p).frame
    let framed : Frame → State := fun g => s.setPort p { s.port p with frame := g }
    (s.Runs → f.receiver = .idle → exec (.selectActive p) s = .next (framed ⟨.code, [], [], [], 0⟩)) ∧
    (f.receiver ≠ .idle → exec (.selectActive p) s = .next s) ∧
    (s.Runs → exec (.selectReleased p) s = .next (framed ⟨.idle, [], [], [], 0⟩)) ∧
    (∀ code, s.Hears p → requestRow code = none →
      exec (.unknownAnswer p code) s = .next ((s.examined p).answered p [0x80])) ∧
    (∀ code row, s.Hears p → requestRow code = some row → row.openTo (s.role p) = false →
      exec (.roleAnswer p code) s =
        .next ((s.examined p).answered p (0x81 :: List.replicate row.answer 0x00))) ∧
    (∃ t, exec .rstActive s = .next t ∧ t.rst = true ∧
      (∀ q, t.port q = { s.port q with frame := ⟨.idle, [], [], [], 0⟩ }) ∧ (∀ e l, t.driveActive e l = false) ∧
      t = { s with rst := true, ports := t.ports }) ∧
    (∀ high, s.rst = true ∨ f.receiver = .idle → s.serialClock p high = .next s) ∧
    (∀ high, s.Runs → f.receiver = .code ∨ f.receiver = .arguments → f.bits.length ≤ 6 →
      s.serialClock p high = .next (framed { f with bits := f.bits ++ [high] })) ∧
    (∀ high, s.Runs → f.receiver = .answer →
      s.serialClock p high = .next (framed { f with sent := min (8 * f.answer.length) (f.sent + 1) })) ∧
    (f.receiver = .idle → f.dataOut = none) ∧
    (f.receiver = .code ∨ f.receiver = .arguments → f.dataOut = some false) ∧
    (f.receiver = .answer → f.answer.length ≤ f.sent / 8 → f.dataOut = some false) ∧
    ∀ b, f.receiver = .answer → f.answer[f.sent / 8]? = some b → f.dataOut = some (b.getMsbD (f.sent % 8))

/-- R22, R155, R157, R170: PING, READ CLOCK and READ SCORES, open to every role in every match state, only read. The codes of
roles and halted-from phases are those of Table 9-6; values of several bytes go most significant byte first, signed ones
in two's complement, and an absent field of one byte reads 0xFF (R171). -/
def Obligations.PingClockAndScoresAreRead : Prop :=
  (∀ c ∈ ([(.referee, 0), (.bridge, 1), (.panel, 2)] : List (Role × Nat)), roleCode c.1 = c.2) ∧
  (∀ c ∈ ([(.auto, 2), (.brk, 3), (.drive, 4), (.endgame, 5)] : List (Phase × Nat)), c.1.state.code = c.2) ∧
  (∀ n, bytes2 n = [byte (n / 256), byte n] ∧ (byte n).toNat = n % 256) ∧
  (∀ v : Int, signed2 v = bytes2 (v % 65536).toNat) ∧
  (∀ v : Int, let w := (v % 4294967296).toNat
    signed4 v = [byte (w / 16777216), byte (w / 65536), byte (w / 256), byte w]) ∧
  (∀ (α : Type) (code : α → Byte), orAbsent code none = 0xFF ∧ ∀ x, orAbsent code (some x) = code x) ∧
  (flagByte false = 0 ∧ flagByte true = 1) ∧
  ∀ (p : Port) (s : State), s.Hears p →
    let u := s.examined p
    let total : Int := ∑ a : Alliance, if u.clock.inPlay.getLsbD a.val = true then u.published.get a else 0
    let share : Alliance → Int := fun a =>
      if u.clock.inPlay.getLsbD a.val = true ∧ 0 < total then 100 * u.published.get a / total else 0
    exec (.ping p) s = .next (u.answered p
      [0x00, indexByte p, byte (roleCode (s.role p)), byte (u.port p).queue.length,
        byte (u.port p).snapshot.length]) ∧
    exec (.readClock p) s = .next (u.answered p
      ([0x00, byte u.clock.state.code, orAbsent (fun ph => byte ph.state.code) u.clock.haltedFrom]
        ++ bytes2 (u.clock.remaining / 100) ++ [flagByte u.clock.aborted, byte u.clock.inPlay.toNat])) ∧
    exec (.readScores p) s = .next (u.answered p
      (0x00 :: byte ((if total ≤ 0 then 128 else 0) + u.clock.inPlay.toNat) ::
        allAlliances.flatMap fun a =>
          signed4 (u.accumulators.get a) ++ signed2 (u.published.get a) ++ [byte (share a).toNat]))

/-- R59 and R114: READ ROBOT and READ ELEMENT answer the fields of one robot or element, and change nothing. The codes of
kind, use, direction, block cause, standing, link and feed state are those of Table 9-6, by which an element that is not a
gate has motion state 7 (R171). -/
def Obligations.RobotAndElementAreRead : Prop :=
  (∀ c ∈ ([(.none, 0), (.gate, 1), (.dispenser, 2), (.goal, 3), (.beacon, 4)] : List (Kind × Nat)), c.1.code = c.2) ∧
  (∀ c ∈ ([(.closed, 0), (.claim, 1), (.auto, 2)] : List (Use × Nat)), c.1.code = c.2) ∧
  (∀ c ∈ ([(.out, 0), (.back, 1)] : List (Direction × Nat)), directionCode c.1 = c.2) ∧
  (∀ c ∈ ([(.inert, 0), (.free, 0), (.returning, 0), (.blocked .field, 1), (.blocked .jam, 2)] : List (ClaimState × Nat)),
    c.1.causeCode = c.2) ∧ (∀ r, (ClaimState.held r).causeCode = 0) ∧
  (∀ c ∈ ([(.field, 1), (.jam, 2)] : List (BlockCause × Nat)), c.1.code = c.2) ∧
  (∀ c ∈ ([(.clear, 0), (.benched, 1), (.out, 2)] : List (Standing × Nat)), c.1.code = c.2) ∧
  (∀ c ∈ ([(.live, 0), (.stale, 1)] : List (Link × Nat)), c.1.code = c.2) ∧
  (∀ c ∈ ([(.stopped, 0), (.running, 1), (.held, 2)] : List (FeedState × Nat)), c.1.code = c.2) ∧
  motionCode none = 7 ∧ (∀ m : Motion, motionCode (some m) = m.code) ∧
  (∀ m : Motion, m.pending = match m with
    | .braking d => some d
    | .unknown | .atRest | .movingOut | .atOut | .movingBack | .stopped => none) ∧
  ∀ (p : Port) (n : Byte) (s : State), s.Hears p →
    let u := s.examined p
    (16 ≤ n.toNat → exec (.readRobot p n) s = .next (u.answered p (0x82 :: List.replicate 11 0x00))) ∧
    (24 ≤ n.toNat → exec (.readElement p n) s = .next (u.answered p (0x82 :: List.replicate 19 0x00))) ∧
    (∀ r : Robot, n.toNat = r.val → let x := u.robot r
      let link : Option Link := x.bound.map fun q => (u.port q).link
      let enabled : Bool := x.standing = .clear && link = some .live && u.clock.state.isLive
      exec (.readRobot p n) s = .next (u.answered p
        ([0x00, (x.bound.map indexByte).getD 0, orAbsent indexByte x.alliance, byte x.standing.code, byte x.strikes]
          ++ bytes2 (x.bench / 100) ++ [orAbsent (fun l => byte l.code) link, flagByte enabled,
            orAbsent indexByte x.held, orAbsent (fun w => indexByte w.1) x.waiting,
            (x.waiting.map fun w => byte w.2).getD 0]))) ∧
    (∀ e : Elem, n.toNat = e.val → let x := u.element e
      let motion : Option Motion := if x.header.kind = .gate then some x.motion else none
      exec (.readElement p n) s = .next (u.answered p
        ([0x00, byte x.header.kind.code, indexByte x.header.group, byte (u.activeProfile e).use.code,
          byte x.claim.state.code, orAbsent indexByte x.claim.state.holder, orAbsent indexByte x.claim.lastAlliance,
          byte x.claim.state.causeCode, byte x.claim.waiters.length, byte (motionCode motion),
          orAbsent (fun d => byte (directionCode d)) (motion.bind Motion.pending),
          flagByte (x.header.kind = .gate && x.purpose = .home),
          byte ((if x.senseActive .s0 then 1 else 0) + (if x.senseActive .s1 then 2 else 0))]
          ++ bytes2 x.pieces ++ bytes2 x.orphans
          ++ (if x.header.kind = .dispenser then
              [byte x.shots, byte ((u.activeProfile e).quota.getD 0), byte x.feed.code] else [0, 0, 0]))))

/-- R173, R178, R180, R181, Tables 9-8 and 9-9: SUBSCRIBE replaces the mask; READ NOTICE removes and returns the oldest entries,
eight bytes each with the codes of the tables, and refuses a count outside 1 to 16. A port's attention output is active
while its queue holds an entry and inactive while it is empty. -/
def Obligations.NoticesAreReadAndMaskStored : Prop :=
  (∀ (p : Port) (n : Byte) (s : State), s.Hears p →
    let u := s.examined p
    let q := (u.port p).queue
    let mask : Subscription := ⟨n.getLsbD 0, n.getLsbD 1, n.getLsbD 2⟩
    let entry : Notice → List Byte := fun x =>
      let time := (if x.value.isSome = true then 128 * 256 else 0) + x.tenths % 16384
      let value := (BitVec.ofInt 16 (x.value.getD 0)).toNat
      [byte (16 * x.kind.code + x.state.code), byte ((x.reason.map Reason.code).getD 0),
        (x.robot.map indexByte).getD 0xFF, (x.element.map indexByte).getD 0xFF, byte (time / 256), byte time,
        byte (value / 256), byte value]
    exec (.subscribe p n) s =
      .next ((u.setPort p { u.port p with subscription := mask }).answered p [0x00, n &&& 0x07]) ∧
    (1 ≤ n.toNat → n.toNat ≤ 16 →
      exec (.readNotice p n) s = .next ((u.setPort p { u.port p with queue := q.drop n.toNat }).answered p
        (0x00 :: byte (min n.toNat q.length) :: (q.take n.toNat).flatMap entry))) ∧
    (n.toNat = 0 ∨ 17 ≤ n.toNat → exec (.readNotice p n) s = .next (u.answered p [0x82, 0x00]))) ∧
  (∀ c ∈ ([(.grant, 1), (.lost, 2), (.dropped, 3), (.robot, 4), (.phase, 5), (.score, 6), (.element, 7), (.stage, 8),
      (.overflow, 9)] : List (NoticeKind × Nat)), c.1.code = c.2) ∧
  (∀ c ∈ ([(.setup, 0), (.armed, 1), (.auto, 2), (.brk, 3), (.drive, 4), (.endgame, 5), (.finished, 6), (.closed, 7),
      (.halted, 8)] : List (MatchState × Nat)), c.1.code = c.2) ∧
  (∀ c ∈ ([(.arm, 0x01), (.disarm, 0x02), (.start, 0x03), (.time, 0x04), (.halt, 0x05), (.resume, 0x06),
      (.abort, 0x07), (.finalise, 0x08), (.newMatch, 0x09), (.released, 0x10), (.expired, 0x11), (.quota, 0x12),
      (.benched, 0x13), (.out, 0x14), (.stale, 0x15), (.freed, 0x16), (.phase, 0x17), (.field, 0x18), (.jam, 0x19),
      (.strike, 0x20), (.cleared, 0x21), (.live, 0x22), (.blocked, 0x30), (.rearmed, 0x31), (.fieldStop, 0x32),
      (.fieldClear, 0x33), (.applied, 0x40), (.void, 0x41)] : List (Reason × Nat)), c.1.code = c.2) ∧
  (∀ a : Alliance, (Reason.alliance a).code = a.val) ∧
  ∀ (s : State) (q : Port), s.attention q = true ↔ (s.port q).queue ≠ []

/-- R174, R182, R184 and Table 9-10: SNAPSHOT latches the elements of a mask that is not empty into an empty buffer, in element
order; READ SNAPSHOT empties the buffer and returns its entries, twelve bytes each, a VOID one with its mark and element
number alone. -/
def Obligations.SnapshotsAreLatchedAndRead : Prop :=
  (∀ (p : Port) (s : State),
    let u := s.examined p
    let latched : Elem → SnapEntry := fun e =>
      let x := u.element e
      ⟨e, some ⟨x.claim.state, x.claim.waiters.length, if x.header.kind = .gate then some x.motion else none,
        x.pulse.mode, x.pulse.count, x.pulse.output, x.pulse.pendingTune.isSome, x.timer.count, x.senseActive .s0,
        x.senseActive .s1, x.pieces⟩⟩
    let entry : SnapEntry → List Byte := fun y => match y.data with
      | none => byte (128 + y.element.val) :: List.replicate 11 0x00
      | some d =>
        let motion : Nat := match d.motion with
          | some m => m.code
          | none => 7
        [indexByte y.element, byte (16 * d.waitCount + d.claim.code), (d.claim.holder.map indexByte).getD 0xFF,
          byte ((if d.s1 = true then 128 else 0) + (if d.s0 = true then 64 else 0) + motion),
          byte ((if d.reloadPending = true then 32 else 0) + (if d.output = true then 16 else 0) + d.mode.code),
          byte (d.count / 256), byte d.count, byte (d.timer / 65536), byte (d.timer / 256), byte d.timer,
          byte (d.pieces / 256), byte d.pieces]
    (∀ mask : BitVec 24, s.Hears p →
      let named := allElems.filter fun e => mask.getLsbD e.val
      (mask = 0 → exec (.snapshot p mask) s = .next (u.answered p [0x82, 0x00])) ∧
      (mask ≠ 0 → (u.port p).snapshot ≠ [] → exec (.snapshot p mask) s = .next (u.answered p [0x8E, 0x00])) ∧
      (mask ≠ 0 → (u.port p).snapshot = [] → exec (.snapshot p mask) s =
        .next ((u.setPort p { u.port p with snapshot := named.map latched }).answered p
          [0x00, byte named.length]))) ∧
    (s.Hears p → exec (.readSnapshot p) s = .next ((u.setPort p { u.port p with snapshot := [] }).answered p
      (0x00 :: byte (u.port p).snapshot.length :: (u.port p).snapshot.flatMap entry)))) ∧
  (∀ c ∈ ([(.inert, 0), (.free, 1), (.returning, 3), (.blocked .field, 4), (.blocked .jam, 4)] : List (ClaimState × Nat)),
    c.1.code = c.2) ∧ (∀ r, (ClaimState.held r).code = 2) ∧
  (∀ c ∈ ([(.unknown, 0), (.atRest, 1), (.movingOut, 2), (.atOut, 3), (.movingBack, 4), (.braking .out, 5),
      (.braking .back, 5), (.stopped, 6)] : List (Motion × Nat)), c.1.code = c.2) ∧
  ∀ c ∈ ([(.idle, 0), (.shot, 1), (.rate, 2), (.wave, 3), (.strobe, 4)] : List (Mode × Nat)), c.1.code = c.2

/-! ## Requests of a bridge -/

/-- R63, R64 and R120: a CLAIM that passes the checks of R62 is granted on a FREE element, and queued on one that is HELD or
RETURNING while its list has fewer than 4; a beacon's unit is started in RATE. -/
def Obligations.ClaimIsGrantedOrQueued : Prop :=
  ∀ (p : Port) (s : State) (r : Robot) (e : Elem) (a : Alliance), s.Hears p → s.role p = .bridge →
    let u := s.examined p
    let x := u.element e
    let active := u.activeProfile e
    let rate : PulseUnit → Nat → PulseUnit := fun u n =>
      ⟨.rate, n, n, u.half, false, true, match u.pendingTune with
        | some (v, .rate) => some (v, .rate)
        | _ => none⟩
    (u.robot r).bound = some p → u.clock.state.isLive = true → u.enabled r = true →
    active.use = .claim → (u.robot r).alliance = some a → (active.mask.getD 0).getLsbD a.val = true →
    u.heldBy r = none → u.waitOf r = none →
    ∃ t, exec (.claim p (byte r.val) (byte e.val)) s = .next t ∧
      (x.claim.state = .free →
        let y : Element := { x with
          claim := ⟨.held r, x.claim.lastAlliance, x.claim.waiters.filter (· ≠ r)⟩
          timer := if active.hold.getD 0 = 0 then ⟨false, 0⟩ else ⟨true, active.hold.getD 0 * 1000⟩ }
        t.element e = (match x.header.kind with
          | .dispenser => { y with shots := 0, quotaMark := false }
          | .beacon => { y with pulse := rate x.pulse (active.interval.getD 0), test := none }
          | .none | .gate | .goal => y) ∧
        t.ports = (u.answered p [0x01, indexByte e, byte (active.hold.getD 0), 0x00]).ports) ∧
      (x.claim.state.holder.isSome = true ∨ x.claim.state = .returning →
        (x.claim.waiters.length ≤ 3 →
          t.element e = { x with claim := { x.claim with waiters := x.claim.waiters ++ [r] } } ∧
          t.ports = (u.answered p [0x02, indexByte e, 0x00, byte (x.claim.waiters.length + 1)]).ports) ∧
        (4 ≤ x.claim.waiters.length → t = u.answered p [0x8A, 0x00, 0x00, 0x00])) ∧
      (x.claim.state = .free ∨ x.claim.waiters.length ≤ 3 →
        x.claim.state.holder.isSome = true ∨ x.claim.state = .free ∨ x.claim.state = .returning →
        ∀ r', (t.robot r').held = t.heldBy r' ∧ (t.robot r').waiting = t.waitOf r') ∧
      u.SameElementsBut e t ∧ u.SameMatch t ∧ u.SameScores t ∧ u.SameRosters t

/-- R62: the checks of CLAIM, each with its refusal, in order; ALREADY for the holder and for a waiter of the element. -/
def Obligations.ClaimIsCheckedInOrder : Prop :=
  ∀ (p : Port) (s : State), s.Hears p → s.role p = .bridge →
    let u := s.examined p
    (∀ rb eb : Byte, 16 ≤ rb.toNat ∨ 24 ≤ eb.toNat →
      exec (.claim p rb eb) s = .next (u.answered p [0x82, 0x00, 0x00, 0x00])) ∧
    ∀ (r : Robot) (e : Elem),
      let c := u.claim e
      let active := u.activeProfile e
      let yours : Prop := (u.robot r).bound = some p
      let live : Prop := u.clock.state.isLive = true
      let able : Prop := u.enabled r = true
      let opened : Prop := c.state.isBlocked = false
      let permitted : Prop := active.use = .claim ∧
        ∃ a, (u.robot r).alliance = some a ∧ (active.mask.getD 0).getLsbD a.val = true
      let passed : Prop := yours ∧ live ∧ able ∧ opened ∧ permitted
      let answers : List Byte → Prop := fun bytes =>
        exec (.claim p (byte r.val) (byte e.val)) s = .next (u.answered p bytes)
      (¬ yours → answers [0x84, 0, 0, 0]) ∧
      (yours → ¬ live → answers [0x83, 0, 0, 0]) ∧
      (yours → live → ¬ able → answers [0x85, 0, 0, 0]) ∧
      (yours → live → able → ¬ opened → answers [0x87, 0, 0, 0]) ∧
      (yours → live → able → opened → ¬ permitted → answers [0x86, 0, 0, 0]) ∧
      (passed → c.state = .held r → answers [0x03, indexByte e, 0, 0]) ∧
      (passed → c.state ≠ .held r → u.heldBy r ≠ none → answers [0x88, 0, 0, 0]) ∧
      (∀ k, passed → u.heldBy r = none → u.waitOf r = some (e, k) → answers [0x03, indexByte e, 0, byte k]) ∧
      (∀ e' k, passed → u.heldBy r = none → u.waitOf r = some (e', k) → e' ≠ e → answers [0x89, 0, 0, 0])

/-- R65, R66, R67: RELEASE and FREE end a claim by the common ending with their cause; WITHDRAW takes a robot off its wait list
without a notice; each with its checks in order. -/
def Obligations.ReleaseWithdrawAndFree : Prop :=
  ∀ (p : Port) (s : State), let u := s.examined p
    (∀ (r : Robot) (e : Elem), s.Hears p → s.role p = .bridge →
      let yours : Prop := (u.robot r).bound = some p
      let taken : Prop := u.clock.state.isLive = true ∨ u.clock.state = .halted
      let run := exec (.release p (byte r.val) (byte e.val)) s
      (¬ yours → run = .next (u.answered p [0x84])) ∧ (yours → ¬ taken → run = .next (u.answered p [0x83])) ∧
      (yours → taken → (u.claim e).state ≠ .held r → run = .next (u.answered p [0x8D])) ∧
      (yours → taken → (u.claim e).state = .held r → run = .next ((u.endClaim e .released).answered p [0x00]))) ∧
    (∀ r : Robot, s.Hears p → s.role p = .bridge →
      let yours : Prop := (u.robot r).bound = some p
      let run := exec (.withdraw p (byte r.val)) s
      (¬ yours → run = .next (u.answered p [0x84, 0, 0])) ∧
      (yours → u.waitOf r = none → run = .next (u.answered p [0x03, 0, 0])) ∧
      ∀ e k, yours → u.waitOf r = some (e, k) →
        let v := u.setElement e { u.element e with
          claim := { u.claim e with waiters := (u.claim e).waiters.filter (· ≠ r) } }
        let mirrored := rewriteAll (fun r' x => { x with held := v.heldBy r', waiting := v.waitOf r' }) v.robots
        run = .next (({ v with robots := mirrored }).answered p [0x00, indexByte e, byte k])) ∧
    (s.Hears 0 → let u := s.examined 0
      ∀ e : Elem, let run := exec (.free 0 (byte e.val)) s
        ((u.claim e).state.holder.isSome = true → run = .next ((u.endClaim e .freed).answered 0 [0x00])) ∧
        ((u.claim e).state.holder = none → run = .next (u.answered 0 [0x03]))) ∧
    (∀ rb eb : Byte, 16 ≤ rb.toNat ∨ 24 ≤ eb.toNat → s.Hears p → s.role p = .bridge →
      exec (.release p rb eb) s = .next (u.answered p [0x82])) ∧
    (∀ rb : Byte, 16 ≤ rb.toNat → s.Hears p → s.role p = .bridge →
      exec (.withdraw p rb) s = .next (u.answered p [0x82, 0, 0])) ∧
    ∀ eb : Byte, 24 ≤ eb.toNat → s.Hears 0 → exec (.free 0 eb) s = .next ((s.examined 0).answered 0 [0x82])

/-- R91 and R92 with Table 5-3: the checks of MOVE in order, and its effect by the motion state. -/
def Obligations.MoveActsByMotionState : Prop :=
  ∀ (p : Port) (s : State), s.Hears p → s.role p = .bridge →
    let u := s.examined p
    (∀ rb eb db : Byte, 16 ≤ rb.toNat ∨ 24 ≤ eb.toNat ∨ 2 ≤ db.toNat →
      exec (.move p rb eb db) s = .next (u.answered p [0x82, 0])) ∧
    ∀ (r : Robot) (e : Elem) (d : Direction),
      let x := u.element e
      let run := exec (.move p (byte r.val) (byte e.val) (byte (if d = .out then 0 else 1))) s
      let answers : List Byte → Prop := fun bytes => run = .next (u.answered p bytes)
      let started : Prop := run = .next ((u.startMotion e d .holder).answered p
        [0x00, byte ((u.startMotion e d .holder).element e).motion.code])
      let brake := x.header.brakeTime.getD 0
      let reversed : Prop := run = .next ((u.setElement e { x with
        pulse := ⟨.strobe, brake, brake, .first, false, true, none⟩, test := none, motion := .braking d }).answered p
        [0x00, 0x05])
      let yours : Prop := (u.robot r).bound = some p
      let live : Prop := u.clock.state.isLive = true
      let passed : Prop := yours ∧ live ∧ x.header.kind = .gate ∧ x.claim.state = .held r
      (¬ yours → answers [0x84, 0]) ∧ (yours → ¬ live → answers [0x83, 0]) ∧
      (yours → live → x.header.kind ≠ .gate → answers [0x82, 0]) ∧
      (yours → live → x.header.kind = .gate → x.claim.state ≠ .held r → answers [0x8D, 0]) ∧
      (passed → x.motion = (if d = .out then .atOut else .atRest) → answers [0x03, 0]) ∧
      (passed → x.motion = (if d = .out then .movingOut else .movingBack) → answers [0x8B, 0]) ∧
      (∀ next, passed → x.motion = .braking next → answers [0x8B, 0]) ∧
      (passed → x.motion = (if d = .out then .movingBack else .movingOut) → reversed) ∧
      (passed → x.motion = (if d = .out then .atRest else .atOut) ∨ x.motion = .unknown ∨ x.motion = .stopped → started)

/-- R100, R118 and R126: the checks of DISPENSE in order; the release shot, with a tuned width if one is pending, the shot count and
the quota mark of an accepted one. -/
def Obligations.DispenseFiresReleaseShot : Prop :=
  ∀ (p : Port) (s : State), s.Hears p → s.role p = .bridge →
    let u := s.examined p
    (∀ rb eb : Byte, 16 ≤ rb.toNat ∨ 24 ≤ eb.toNat →
      exec (.dispense p rb eb) s = .next (u.answered p [0x82, 0, 0])) ∧
    ∀ (r : Robot) (e : Elem),
      let x := u.element e
      let width := x.header.releaseWidth.getD 0
      let shot : PulseUnit := ⟨.shot, width, (match x.pulse.pendingTune with
        | some (v, .shot) => v
        | _ => width), x.pulse.half, true, true, none⟩
      let run := exec (.dispense p (byte r.val) (byte e.val)) s
      let answers : List Byte → Prop := fun bytes => run = .next (u.answered p bytes)
      let yours : Prop := (u.robot r).bound = some p
      let live : Prop := u.clock.state.isLive = true
      let kind : Prop := x.header.kind = .dispenser
      let holds : Prop := x.claim.state = .held r
      let ready : Prop := x.senseActive .s1 = false
      let quota := (u.activeProfile e).quota.getD 0
      let shots := min 255 (x.shots + 1)
      (¬ yours → answers [0x84, 0, 0]) ∧ (yours → ¬ live → answers [0x83, 0, 0]) ∧
      (yours → live → ¬ kind → answers [0x82, 0, 0]) ∧ (yours → live → kind → ¬ holds → answers [0x8D, 0, 0]) ∧
      (yours → live → kind → holds → ¬ ready → answers [0x8C, 0, 0]) ∧
      (yours → live → kind → holds → ready → x.pulse.mode = .shot → answers [0x8B, 0, 0]) ∧
      (yours → live → kind → holds → ready → x.pulse.mode ≠ .shot →
        run = .next ((u.setElement e { x with
          pulse := shot, test := none, shots := shots,
          quotaMark := x.quotaMark || decide (0 < quota ∧ quota ≤ shots) }).answered p
            [0x00, byte shots, byte quota]))

/-! ## Requests of the referee -/

/-- R9, R44 and R45: SET TIMING clamps each value, the DRIVE length before the ENDGAME length; BIND and UNBIND write a record;
each in SETUP alone, with its checks in order. -/
def Obligations.TimingAndBindingAreWritten : Prop :=
  ∀ s : State, let u := s.examined 0
    let setup : Prop := u.clock.state = .setup
    (∀ a : TimingArgs, s.Hears 0 →
      let clamp : Nat → Nat → Nat → Nat := fun lo hi v => if v < lo then lo else if hi < v then hi else v
      let d := clamp 10 900 a.driveS.toNat
      let t : Timing := ⟨clamp 0 300 a.autoS.toNat, clamp 0 120 a.breakS.toNat, d, clamp 0 d a.endgameS.toNat,
        clamp 1 4 a.autoMul.toNat, clamp 1 4 a.driveMul.toNat, clamp 1 4 a.endgameMul.toNat,
        clamp 100 2000 a.silence.toNat⟩
      (setup → exec (.setTiming 0 a) s = .next (({ u with timing := t }).answered 0
        (0x00 :: (bytes2 t.autoS ++ bytes2 t.breakS ++ bytes2 t.driveS ++ bytes2 t.endgameS
          ++ [byte t.autoMul, byte t.driveMul, byte t.endgameMul] ++ bytes2 t.silence)))) ∧
      (¬ setup → exec (.setTiming 0 a) s = .next (u.answered 0 (0x83 :: List.replicate 13 0x00)))) ∧
    (∀ rb qb ab : Byte, s.Hears 0 →
      (¬ setup → exec (.bind 0 rb qb ab) s = .next (u.answered 0 [0x83])) ∧
      (setup → 16 ≤ rb.toNat ∨ qb.toNat = 0 ∨ 6 ≤ qb.toNat ∨ 4 ≤ ab.toNat →
        exec (.bind 0 rb qb ab) s = .next (u.answered 0 [0x82])) ∧
      ∀ (r : Robot) (q : Port) (a : Alliance), setup → rb.toNat = r.val → qb.toNat = q.val → q ≠ 0 → ab.toNat = a.val →
        (u.role q ≠ .bridge → exec (.bind 0 rb qb ab) s = .next (u.answered 0 [0x82])) ∧
        (u.role q = .bridge → exec (.bind 0 rb qb ab) s =
          .next ((u.setRobot r { u.robot r with bound := some q, alliance := some a }).answered 0 [0x00]))) ∧
    (∀ rb : Byte, s.Hears 0 →
      (¬ setup → exec (.unbind 0 rb) s = .next (u.answered 0 [0x83])) ∧
      (setup → 16 ≤ rb.toNat → exec (.unbind 0 rb) s = .next (u.answered 0 [0x82])) ∧
      ∀ r : Robot, setup → rb.toNat = r.val →
        ((u.robot r).bound = none → exec (.unbind 0 rb) s = .next (u.answered 0 [0x03])) ∧
        ((u.robot r).bound ≠ none → exec (.unbind 0 rb) s =
          .next ((u.setRobot r { u.robot r with bound := none, alliance := none }).answered 0 [0x00])))

/-- R24 and R25: the checks of SET ELEMENT in order, for a gate, a dispenser, a goal and the kinds without figures; the answer is
the stored header in ten bytes, with ignored bits and figures that the kind does not keep zero; the written header leaves the
gate UNKNOWN and voids the element's snapshot entries (R183). That no change is pending after the write, so that the filter
starts at the next sample, and that counters, shot count, marks and feed are kept is notes/assumptions/25.md. -/
def Obligations.ElementHeaderIsWritten : Prop :=
  ∀ (s : State) (eb : Byte) (a : HeaderArgs), s.Hears 0 →
    let u := s.examined 0
    let run := exec (.setElement 0 eb a) s
    let refused : Byte → Prop := fun status => run = .next (u.answered 0 (status :: List.replicate 10 0x00))
    let setting : Byte → Option SenseSetting := fun b =>
      let edge := b.toNat / 16 % 4
      if edge = 3 then none
      else some ⟨b.getLsbD 7, b.toNat % 16, if edge = 0 then .active else if edge = 1 then .release else .any⟩
    let fits : Nat → Nat → Half → Bool := fun lo hi v => lo ≤ v.toNat && v.toNat ≤ hi
    let figures : Bool :=
      if a.kind = 1 then fits 100 30000 a.value1 && fits 10 2000 a.value2
      else if a.kind = 2 then fits 10 2000 a.value1
      else if a.kind = 3 then fits 0 5000 a.value1 else true
    let kind : Kind := if a.kind = 1 then .gate else if a.kind = 2 then .dispenser else if a.kind = 3 then .goal
      else if a.kind = 4 then .beacon else .none
    (u.clock.state ≠ .setup → refused 0x83) ∧
    (u.clock.state = .setup → 24 ≤ eb.toNat ∨ 5 ≤ a.kind.toNat ∨ 4 ≤ a.group.toNat ∨ setting a.s0 = none ∨
      setting a.s1 = none ∨ figures = false → refused 0x82) ∧
    ∀ (e : Elem) (g : Group) (s0 s1 : SenseSetting), u.clock.state = .setup → eb.toNat = e.val → a.kind.toNat ≤ 4 →
      a.group.toNat = g.val → setting a.s0 = some s0 → setting a.s1 = some s1 → figures = true →
      let x := u.element e
      let stops : Prop := (u.stop x.header.group).asserted = true ∨ (u.stop g).asserted = true
      let v1 := a.value1.toNat
      let v2 := a.value2.toNat
      let kept : Bool → Nat → List Byte := fun keeps v => if keeps = true then [byte (v / 256), byte v] else [0x00, 0x00]
      let h : Header := ⟨kind, g, s0, s1, a.drive.getLsbD 0, a.drive.getLsbD 1,
        if kind = .gate then some v1 else none, if kind = .gate then some v2 else none,
        if kind = .dispenser then some v1 else none, if kind = .goal then some v1 else none⟩
      (stops → refused 0x91) ∧
      (¬ stops → x.pulse.mode ≠ .idle → refused 0x8B) ∧
      (¬ stops → x.pulse.mode = .idle → ∃ t,
        run = .next t ∧
        (t.port 0).frame = ⟨.answer, [], [], [0x00, indexByte e, a.kind, indexByte g, a.s0 &&& 0xBF, a.s1 &&& 0xBF,
          a.drive &&& 0x03] ++ kept (kind = .gate || kind = .dispenser || kind = .goal) v1 ++ kept (kind = .gate) v2, 0⟩ ∧
        (∀ q, q ≠ 0 → (t.port q).frame = (u.port q).frame) ∧
        t.element e = { x with
          header := h, motion := .unknown, purpose := .none, s0 := ⟨x.s0.high, none⟩, s1 := ⟨x.s1.high, none⟩ } ∧
        u.SameElementsBut e t ∧
        (∀ q, t.port q = { u.port q with
          frame := (t.port q).frame
          snapshot := (u.port q).snapshot.map fun y => if y.element = e then ⟨e, none⟩ else y }) ∧
        t = { u with elements := t.elements, ports := t.ports })

/-- R27 and R34: SET PROFILE in SETUP and STAGE PUT in OPEN store a profile that fits the element's kind, with the fields that
Table 2-3 lists for the pair (`profileOf`), and refuse one that does not. SET PROFILE answers the stored profile in fourteen
bytes with the codes of Table 9-6, an absent credit 0xFF and any other absent field 0x00 (R171). -/
def Obligations.ProfilesAreStored : Prop :=
  ∀ (s : State) (eb : Byte) (a : ProfileArgs), let u := s.examined 0
    let two : Option Nat → List Byte := fun v => [byte (v.getD 0 / 256), byte (v.getD 0)]
    let stored : Elem → LivePhase → Profile → List Byte := fun e ph pr =>
      let phase : Byte := match ph with
        | .auto => 2
        | .drive => 4
        | .endgame => 5
      let use : Byte := match pr.use with
        | .closed => 0
        | .claim => 1
        | .auto => 2
      let credit : Byte := match pr.credit with
        | none => 0xFF
        | some .holder => 0x10
        | some (.fixed i) => indexByte i
      [indexByte e, phase, use, byte (pr.mask.getD 0).toNat, byte (pr.hold.getD 0)] ++ two pr.cooldown ++
        [byte (pr.weight.getD 0), credit] ++ two pr.feedPeriod ++ two pr.interval ++ [byte (pr.quota.getD 0)]
    (∀ pb : Byte, s.Hears 0 →
      let run := exec (.setProfile 0 eb pb a) s
      let refused : Byte → Prop := fun status => run = .next (u.answered 0 (status :: List.replicate 14 0x00))
      (u.clock.state ≠ .setup → refused 0x83) ∧
      (u.clock.state = .setup → 24 ≤ eb.toNat ∨ (pb ≠ 2 ∧ pb ≠ 4 ∧ pb ≠ 5) → refused 0x82) ∧
      ∀ (e : Elem) (ph : LivePhase), u.clock.state = .setup → eb.toNat = e.val → pb = byte ph.code →
        (profileOf (u.element e).header.kind a = none → refused 0x82) ∧
        ∀ pr, profileOf (u.element e).header.kind a = some pr → ∃ t,
          run = .next t ∧ t.port 0 = { u.port 0 with frame := ⟨.answer, [], [], 0x00 :: stored e ph pr, 0⟩ } ∧
          (∀ q, q ≠ 0 → t.port q = u.port q) ∧
          (t.element e).plan ph = pr ∧ (∀ other, other ≠ ph → (t.element e).plan other = (u.element e).plan other) ∧
          t.element e = { u.element e with
            planAuto := (t.element e).plan .auto, planDrive := (t.element e).plan .drive,
            planEndgame := (t.element e).plan .endgame } ∧
          u.SameElementsBut e t ∧ t = { u with elements := t.elements, ports := t.ports }) ∧
    (s.Hears 0 →
      let run := exec (.stagePut 0 eb a) s
      let refused : Byte → Prop := fun status => run = .next (u.answered 0 [status, 0x00])
      (u.stage.state ≠ .opened → refused 0x8F) ∧
      (u.stage.state = .opened → 24 ≤ eb.toNat → refused 0x82) ∧
      ∀ e : Elem, u.stage.state = .opened → eb.toNat = e.val →
        (profileOf (u.element e).header.kind a = none → refused 0x82) ∧
        ∀ pr, profileOf (u.element e).header.kind a = some pr →
          let st : Stage := ⟨.opened, u.stage.entries.set e.val (some pr) e.isLt⟩
          run = .next (({ u with stage := st }).answered 0 [0x00, byte st.count]) ∧
          st.count = if (u.stage.entries.get e).isSome = true then u.stage.count else u.stage.count + 1)

/-- R26, R27 and Table 2-3: the pairs of kind and use that are valid, and for each the profile stored: every listed field within
its range, no other field present. -/
def Obligations.ProfileFieldsFollowPair : Prop :=
  ∀ a : ProfileArgs,
    let fits : Nat → Nat → Half → Prop := fun lo hi v => lo ≤ v.toNat ∧ v.toNat ≤ hi
    let mask : Option AllianceSet := some (a.mask.extractLsb' 0 4)
    let hold : Option Nat := some a.hold.toNat
    let cooldown : Option Nat := some a.cooldown.toNat
    let weight : Option Nat := some a.weight.toNat
    (∀ k, profileOf k { a with use := 0 } = some ⟨.closed, none, none, none, none, none, none, none, none⟩) ∧
    (∀ k, 3 ≤ a.use.toNat → profileOf k a = none) ∧
    (∀ k, (k = .none ∨ k = .gate ∨ k = .beacon) → profileOf k { a with use := 2 } = none) ∧
    profileOf .none { a with use := 1 } = none ∧
    profileOf .gate { a with use := 1 } = some ⟨.claim, mask, hold, none, none, none, none, none, none⟩ ∧
    (∀ pr, profileOf .dispenser { a with use := 1 } = some pr ↔ fits 0 10000 a.cooldown ∧ a.quota.toNat ≤ 15 ∧
      pr = ⟨.claim, mask, hold, cooldown, none, none, none, none, some a.quota.toNat⟩) ∧
    (∀ pr, profileOf .dispenser { a with use := 2 } = some pr ↔ fits 200 60000 a.feedPeriod ∧
      pr = ⟨.auto, none, none, none, none, none, some a.feedPeriod.toNat, none, none⟩) ∧
    (∀ pr, profileOf .goal { a with use := 1 } = some pr ↔ fits 0 10000 a.cooldown ∧ a.credit = 0x10 ∧
      pr = ⟨.claim, mask, hold, cooldown, weight, some .holder, none, none, none⟩) ∧
    (∀ pr, profileOf .goal { a with use := 2 } = some pr ↔ ∃ c : Alliance, a.credit.toNat = c.val ∧
      pr = ⟨.auto, none, none, none, weight, some (.fixed c), none, none, none⟩) ∧
    (∀ pr, profileOf .beacon { a with use := 1 } = some pr ↔ fits 0 10000 a.cooldown ∧ fits 500 60000 a.interval ∧
      pr = ⟨.claim, mask, hold, cooldown, weight, none, none, some a.interval.toNat, none⟩)

/-- R33, R35, R36: STAGE OPEN, STAGE SEAL and STAGE DISCARD by the match state and the stage state; none raises a notice or changes a
plan profile. -/
def Obligations.StageIsOpenedSealedAndDiscarded : Prop :=
  ∀ s : State, s.Hears 0 →
    let u := s.examined 0
    let m := u.clock.state
    let opens : Prop := m = .armed ∨ m = .auto ∨ m = .brk ∨ m = .drive ∨ m = .endgame ∨ m = .halted
    let st := u.stage
    let none24 : Vector (Option Profile) 24 := Vector.replicate 24 none
    (¬ opens → exec (.stageOpen 0) s = .next (u.answered 0 [0x83])) ∧
    (opens → st.state ≠ .empty → exec (.stageOpen 0) s = .next (u.answered 0 [0x8F])) ∧
    (opens → st.state = .empty →
      exec (.stageOpen 0) s = .next (({ u with stage := ⟨.opened, none24⟩ }).answered 0 [0x00])) ∧
    (st.state ≠ .opened → exec (.stageSeal 0) s = .next (u.answered 0 [0x8F, 0x00])) ∧
    (st.state = .opened → st.count = 0 → exec (.stageSeal 0) s = .next (u.answered 0 [0x82, 0x00])) ∧
    (st.state = .opened → 1 ≤ st.count → exec (.stageSeal 0) s =
      .next (({ u with stage := ⟨.sealed, st.entries⟩ }).answered 0 [0x00, byte st.count])) ∧
    (st.state = .empty → exec (.stageDiscard 0) s = .next (u.answered 0 [0x8F, 0x00])) ∧
    (st.state ≠ .empty → exec (.stageDiscard 0) s =
      .next (({ u with stage := ⟨.empty, none24⟩ }).answered 0 [0x00, byte st.count]))

/-- R140: the checks of LINE TEST in order; an accepted one runs the unit in SHOT with the width, for the line named alone. -/
def Obligations.LineTestRunsNamedLine : Prop :=
  ∀ (s : State) (eb lb : Byte) (w : Half), s.Hears 0 →
    let u := s.examined 0
    let run := exec (.lineTest 0 eb lb w) s
    let refused : Byte → Prop := fun status => run = .next (u.answered 0 [status, 0x00, 0x00])
    (24 ≤ eb.toNat ∨ 2 ≤ lb.toNat ∨ w.toNat < 10 ∨ 2000 < w.toNat → refused 0x82) ∧
    ∀ (e : Elem) (l : Line), eb.toNat = e.val → lb = byte (if l = .d0 then 0 else 1) → 10 ≤ w.toNat → w.toNat ≤ 2000 →
      let x := u.element e
      let setup : Prop := u.clock.state = .setup
      let stopped : Prop := (u.stop x.header.group).asserted = true
      let crossed : Prop := x.header.kind = .gate ∧ u.driveActive e (if l = .d0 then .d1 else .d0) = true
      (¬ setup → refused 0x83) ∧ (setup → stopped → refused 0x91) ∧ (setup → ¬ stopped → crossed → refused 0x82) ∧
      (setup → ¬ stopped → ¬ crossed → x.pulse.mode ≠ .idle → refused 0x8B) ∧
      (setup → ¬ stopped → ¬ crossed → x.pulse.mode = .idle →
        run = .next ((u.setElement e { x with
          pulse := ⟨.shot, w.toNat, w.toNat, x.pulse.half, true, true, none⟩, test := some l }).answered 0
            [0x00, byte (w.toNat / 256), byte w.toNat]))

/-- R10 to R12, R28, R29, R40, R90, R95, R97, R141: ARM needs SETUP, a plan whose profiles all fit their kinds by Table 2-3 with lengths of
at most 900 s (else it names the first element that fails, or 0xFF for the timing record), and a bound robot. It fixes the
alliances in play, raises the PHASE notice first and ends line tests; then each gate that is not at rest, BLOCKED or
RETURNING is driven home by its SHOT, arrives at once where its rest limit is active, or jams where both limits are, the
gates in element order (notes/assumptions/13.md). DISARM takes that back, voids the stage and stops a homing gate. -/
def Obligations.ArmAndDisarm : Prop :=
  ∀ s : State, s.Hears 0 →
    let u := s.examined 0
    let c := u.clock
    let idle : PulseUnit := ⟨.idle, 0, 0, .first, false, false, none⟩
    let shot : PulseUnit → Nat → PulseUnit := fun u n =>
      ⟨.shot, n, (match u.pendingTune with
        | some (v, .shot) => v
        | _ => n), u.half, true, true, none⟩
    let phase : MatchState → Reason → Notice := fun m reason =>
      ⟨.phase, some reason, none, none, m, c.tenths, some ((c.state.code : Nat) : Int)⟩
    let fits : Kind → Profile → Prop := fun k pr =>
      pr.use = .closed ∨
      pr.use = .claim ∧ pr.mask ≠ none ∧ pr.hold ≠ none ∧
        (k = .gate ∨
        k = .dispenser ∧ pr.cooldown ≠ none ∧ pr.quota ≠ none ∨
        k = .goal ∧ pr.cooldown ≠ none ∧ pr.weight ≠ none ∧ pr.credit = some .holder ∨
        k = .beacon ∧ pr.cooldown ≠ none ∧ pr.weight ≠ none ∧ pr.interval ≠ none) ∨
      pr.use = .auto ∧
        (k = .dispenser ∧ pr.feedPeriod ≠ none ∨
        k = .goal ∧ pr.weight ≠ none ∧ ∃ a, pr.credit = some (.fixed a))
    let sound : Elem → Prop := fun e => ∀ ph, fits (u.element e).header.kind ((u.element e).plan ph)
    let lengths := u.timing.autoS + u.timing.breakS + u.timing.driveS
    let setup : Prop := c.state = .setup
    let passes : Prop := setup ∧ (∀ e, sound e) ∧ lengths ≤ 900
    let run := exec (.arm 0) s
    (¬ setup → run = .next (u.answered 0 [0x83, 0])) ∧
    (∀ e, setup → ¬ sound e → (∀ e', e'.val < e.val → sound e') → run = .next (u.answered 0 [0x90, indexByte e])) ∧
    (setup → (∀ e, sound e) → 900 < lengths → run = .next (u.answered 0 [0x90, 0xFF])) ∧
    (passes → (∀ r, (u.robot r).bound = none) → run = .next (u.answered 0 [0x93, 0])) ∧
    (passes → (∃ r, (u.robot r).bound ≠ none) →
      let begins : Elem → Prop := fun e => let x := u.element e
        x.header.kind = .gate ∧ x.motion ≠ .atRest ∧ x.claim.state ≠ .returning ∧ x.claim.state.isBlocked = false
      let both : Elem → Prop := fun e => (u.element e).senseActive .s0 = true ∧ (u.element e).senseActive .s1 = true
      ∃ t, run = .next t ∧ (u.answered 0 [0x00, 0x00]).SamePorts t ∧
        t.clock = { c with state := .armed, inPlay := t.clock.inPlay } ∧
        (∀ a : Alliance, t.clock.inPlay.getLsbD a.val = true ↔
          ∃ r, (u.robot r).bound ≠ none ∧ (u.robot r).alliance = some a) ∧
        (∀ q, QueueGrows (enqueue (u.port q).queue (phase .armed .arm)) (t.port q).queue) ∧
        ((∀ e, (u.claim e).state.holder = none ∧ (u.claim e).waiters = []) → ∀ jammed : List Elem,
          jammed.Pairwise (fun e e' => e.val < e'.val) → (∀ e, e ∈ jammed ↔ begins e ∧ both e) →
          u.HandedAll (phase .armed .arm :: jammed.map fun e =>
            ⟨.element, some .blocked, none, some e, .armed, c.tenths, some 2⟩) t) ∧
        (∀ e, let x := u.element e
          let y : Element := { x with test := none, pulse := if x.test = none then x.pulse else idle }
          (¬ begins e → t.element e = y) ∧
          (begins e → x.senseActive .s0 = false → t.element e = { y with
            motion := .movingBack, purpose := .home, pulse := shot y.pulse (x.header.motionLimit.getD 0) }) ∧
          (begins e → x.senseActive .s0 = true → x.senseActive .s1 = false → t.element e = { y with
            motion := .atRest, purpose := .none, pulse := idle }) ∧
          (begins e → both e → (t.claim e).state = .blocked .jam ∧ (t.claim e).waiters = [] ∧
            (t.element e).motion = .stopped ∧ (t.element e).purpose = .none ∧ (t.element e).pulse = idle ∧
            (x.claim.state.holder = none → t.element e = { y with
              motion := .stopped, purpose := .none, pulse := idle, timer := ⟨false, 0⟩
              claim := ⟨.blocked .jam, x.claim.lastAlliance, []⟩ }))) ∧
        t.timing = u.timing ∧ t.stage = u.stage ∧ t.stops = u.stops ∧ u.SameScores t ∧ u.SameRosters t ∧
        t.rst = u.rst ∧ t.pending = u.pending ∧ t.clocks = u.clocks) ∧
    (c.state ≠ .armed → exec (.disarm 0) s = .next (u.answered 0 [0x83])) ∧
    (c.state = .armed →
      let voided : List Notice := if u.stage.state = .empty then [] else
        [⟨.stage, some .void, none, none, .setup, c.tenths, some ((u.stage.count : Nat) : Int)⟩]
      ∃ t, exec (.disarm 0) s = .next t ∧ (u.answered 0 [0x00]).SamePorts t ∧
        t.clock = { c with state := .setup, inPlay := 0 } ∧
        t.stage = (if u.stage.state = .empty then u.stage else ⟨.empty, Vector.replicate 24 none⟩) ∧
        u.HandedAll (phase .setup .disarm :: voided) t ∧
        (∀ e, let x := u.element e
          t.element e = if x.header.kind = .gate ∧ x.purpose = .home then
            { x with pulse := idle, test := none, motion := .stopped, purpose := .none } else x) ∧
        t.timing = u.timing ∧ t.stops = u.stops ∧ u.SameScores t ∧ u.SameRobots t ∧ t.rst = u.rst ∧
        t.pending = u.pending ∧ t.clocks = u.clocks)

/-- R13 and R19: START from ARMED, held back while a gate homes, enters AUTO or by the DRIVE entry rule (R15); ABORT takes a running
or halted match to FINISHED with the aborted mark and its remaining time. -/
def Obligations.StartAndAbort : Prop :=
  ∀ s : State, s.Hears 0 →
    let u := s.examined 0
    let c := u.clock
    let homing : Prop := ∃ e, (u.element e).header.kind = .gate ∧ (u.element e).purpose = .home
    let runs : Prop := c.state = .auto ∨ c.state = .brk ∨ c.state = .drive ∨ c.state = .endgame ∨ c.state = .halted
    (c.state ≠ .armed → exec (.start 0) s = .next (u.answered 0 [0x83])) ∧
    (c.state = .armed → homing → exec (.start 0) s = .next (u.answered 0 [0x92])) ∧
    (c.state = .armed → ¬ homing → 0 < u.timing.autoS → exec (.start 0) s =
      .next ((u.enter .start { c with state := .auto, remaining := u.timing.autoS * 1000 }).answered 0 [0x00])) ∧
    (c.state = .armed → ¬ homing → u.timing.autoS = 0 → exec (.start 0) s =
      .next ((u.enter .start { c with
        state := if u.timing.endgameS = u.timing.driveS then .endgame else .drive,
        remaining := u.timing.driveS * 1000 }).answered 0 [0x00])) ∧
    (¬ runs → exec (.abort 0) s = .next (u.answered 0 [0x83])) ∧
    (runs → exec (.abort 0) s = .next
      ((u.enter .abort { c with state := .finished, aborted := true, haltedFrom := none }).answered 0 [0x00]))

/-- R17, R18, R58: HALT keeps the phase it halts and RESUME returns to it, each with its PHASE notice first and one ROBOT notice of
reason PHASE for each bound robot whose enabled flag changed, in slot order; no element, score or stage changes (R85,
R111). -/
def Obligations.HaltAndResume : Prop :=
  ∀ s : State, s.Hears 0 →
    let u := s.examined 0
    let c := u.clock
    let told : Clock → Reason → Bool → State → Prop := fun c' reason enabled t =>
      t.clock = c' ∧ t = { u with clock := c', ports := t.ports } ∧
      (u.answered 0 [0x00]).SamePorts t ∧
      u.HandedAll (⟨.phase, some reason, none, none, c'.state, c'.tenths, some ((c.state.code : Nat) : Int)⟩ ::
        (allRobots.filter fun r => (u.robot r).bound.isSome && u.enabled r != t.enabled r).map fun r =>
          ⟨.robot, some .phase, some r, none, c'.state, c'.tenths, some (if enabled then 1 else 0)⟩) t
    (∀ ph, c.state = ph.state →
      ∃ t, exec (.halt 0) s = .next t ∧ told { c with state := .halted, haltedFrom := some ph } .halt false t) ∧
    (c.state = .halted → exec (.halt 0) s = .next (u.answered 0 [0x03])) ∧
    (c.state = .setup ∨ c.state = .armed ∨ c.state = .finished ∨ c.state = .closed →
      exec (.halt 0) s = .next (u.answered 0 [0x83])) ∧
    (∀ ph, c.state = .halted → c.haltedFrom = some ph →
      ∃ t, exec (.resume 0) s = .next t ∧ told { c with state := ph.state, haltedFrom := none } .resume true t) ∧
    (c.state ≠ .halted → exec (.resume 0) s = .next (u.answered 0 [0x83]))

/-- R20, R21, R43, R86, R113, R134, R159: FINALISE closes a finished match; NEW MATCH in SETUP or CLOSED clears roster, claim table,
engines, units and scores and keeps the plan, masks, queues and snapshot buffers. That a BLOCKED element of kind NONE becomes
INERT under an asserted stop is the model's choice (R86 against R25 and R144, notes/assumptions/29.md). -/
def Obligations.FinaliseAndNewMatch : Prop :=
  ∀ s : State, s.Hears 0 →
    let u := s.examined 0
    let c := u.clock
    let phase : Clock → Reason → Notice := fun c' reason =>
      ⟨.phase, some reason, none, none, c'.state, c'.tenths, some ((c.state.code : Nat) : Int)⟩
    let opens : Prop := c.state = .setup ∨ c.state = .closed
    let closed : Clock := { c with state := .closed }
    let fresh : Clock := ⟨.setup, 0, none, false, 0⟩
    (c.state = .finished → ∃ t, exec (.finalise 0) s = .next t ∧ t = { u with clock := closed, ports := t.ports } ∧
      (u.answered 0 [0x00]).SamePorts t ∧ u.Handed (phase closed .finalise) t) ∧
    (c.state ≠ .finished → exec (.finalise 0) s = .next (u.answered 0 [0x83])) ∧
    (¬ opens → exec (.newMatch 0) s = .next (u.answered 0 [0x83])) ∧
    (opens → ∃ t, exec (.newMatch 0) s = .next t ∧ t.clock = fresh ∧
      u.Handed (phase fresh .newMatch) t ∧
      (∀ a, t.accumulators.get a = 0 ∧ t.published.get a = 0) ∧
      (∀ r, t.robot r = ⟨none, none, .clear, 0, 0, none, none⟩) ∧
      (∀ q, (t.port q).besideQueue = { ((u.answered 0 [0x00]).port q).besideQueue with
        silence := 0, link := .live, silenceDue := false }) ∧
      (∀ e, let x := u.element e
        let stays : Prop := x.header.kind ≠ .none ∧ (u.stop x.header.group).asserted = true
        t.element e = { x with
          claim := ⟨if stays then .blocked .field else .inert, none, []⟩, timer := ⟨false, 0⟩
          motion := if x.header.kind = .gate ∧ (x.motion.moving.isSome = true ∨ x.motion.pending.isSome = true) then
            .stopped else x.motion
          purpose := .none, shots := 0, quotaMark := false, feed := .stopped, feedPending := false, pieces := 0,
          orphans := 0, pulse := ⟨.idle, 0, 0, .first, false, false, none⟩, test := none }) ∧
      t.timing = u.timing ∧ t.stage = u.stage ∧ t.stops = u.stops ∧ t.rst = u.rst ∧ t.pending = u.pending ∧
      t.clocks = u.clocks)

/-- R46 to R48, R151, R152 with Table 3-2: the checks of PENALTY and ADJUST; the points go to the tally before the robot record is
updated, then the ROBOT notice, then the removal of a robot newly BENCHED or OUT. -/
def Obligations.PenaltyAndAdjust : Prop :=
  ∀ s : State, s.Hears 0 →
    let u := s.examined 0
    let m := u.clock.state
    let scoring : Prop := m = .auto ∨ m = .brk ∨ m = .drive ∨ m = .endgame ∨ m = .halted ∨ m = .finished
    (∀ rb points bench : Byte,
      let run := exec (.penalty 0 rb points bench) s
      (¬ scoring → run = .next (u.answered 0 [0x83, 0, 0, 0])) ∧
      (scoring → 16 ≤ rb.toNat → run = .next (u.answered 0 [0x82, 0, 0, 0])) ∧
      ∀ r : Robot, scoring → rb.toNat = r.val →
        ((u.robot r).bound = none → run = .next (u.answered 0 [0x82, 0, 0, 0])) ∧
        ∀ a, (u.robot r).bound ≠ none → (u.robot r).alliance = some a →
          let x := u.robot r
          let v := u.addScore a (-((points.toNat : Nat) : Int))
          let b := if 120 < bench.toNat then 120 else bench.toNat
          let benches : Prop := 0 < b ∧ m ≠ .finished
          let longer := if x.bench < b * 1000 then b * 1000 else x.bench
          let struck : RobotRecord := { x with strikes := x.strikes + 1 }
          let gone : RobotRecord := { x with strikes := 3, standing := .out, bench := 0 }
          let benched : RobotRecord := { struck with standing := .benched, bench := longer }
          let told : RobotRecord → Reason → State := fun y reason => (v.setRobot r y).raiseRobot reason r
          (x.standing = .out → run = .next (v.answered 0 [0x00, byte x.strikes, 0x02, 0])) ∧
          (x.standing ≠ .out → 2 ≤ x.strikes →
            run = .next (((told gone .out).removeRobot r .out).answered 0 [0x00, 0x03, 0x02, 0])) ∧
          (x.standing = .clear → x.strikes ≤ 1 → benches → run = .next
            (((told benched .benched).removeRobot r .benched).answered 0 [0x00, byte (x.strikes + 1), 0x01, byte b])) ∧
          (x.standing = .benched → x.strikes ≤ 1 → benches → run = .next
            ((told { struck with bench := longer } .strike).answered 0
              [0x00, byte (x.strikes + 1), 0x01, byte (if x.bench < b * 1000 then b else 0)])) ∧
          (x.standing ≠ .out → x.strikes ≤ 1 → ¬ benches → run = .next
            ((told struck .strike).answered 0 [0x00, byte (x.strikes + 1), byte x.standing.code, 0]))) ∧
    ∀ (ab : Byte) (amount : Half),
      let run := exec (.adjust 0 ab amount) s
      let d : Int := if amount.toInt < -1000 then -1000 else if 1000 < amount.toInt then 1000 else amount.toInt
      (¬ scoring → run = .next (u.answered 0 (0x83 :: List.replicate 6 0x00))) ∧
      (scoring → 4 ≤ ab.toNat → run = .next (u.answered 0 (0x82 :: List.replicate 6 0x00))) ∧
      ∀ a : Alliance, scoring → ab.toNat = a.val → run = .next ((u.addScore a d).answered 0
        (0x00 :: (signed2 d ++ signed4 ((u.addScore a d).accumulators.get a))))

/-- R81, R103 and R125: the checks of REARM and TUNE in order. An accepted REARM raises its notice, then a gate begins its return, and
any other kind ends RETURNING at once, a dispenser under AUTO starting its feed afresh or leaving it to wait for a release
shot; an accepted TUNE leaves its clamped value pending for the present mode. -/
def Obligations.RearmAndTune : Prop :=
  ∀ s : State, let u := s.examined 0
    (∀ eb : Byte, s.Hears 0 →
      let run := exec (.rearm 0 eb) s
      (24 ≤ eb.toNat → run = .next (u.answered 0 [0x82, 0])) ∧
      ∀ e : Elem, eb.toNat = e.val →
        let x := u.element e
        let stopped : Prop := (u.stop x.header.group).asserted = true
        let blocked : Prop := x.claim.state.isBlocked = true
        let v := (u.setClaimState e .returning).raise .element (some .rearmed) none (some e) none
        let answers : State → Prop := fun t => run = .next (t.answered 0 [0x00, byte (t.claim e).state.code])
        (stopped → run = .next (u.answered 0 [0x91, 0])) ∧
        (¬ stopped → ¬ blocked → run = .next (u.answered 0 [0x82, 0])) ∧
        (¬ stopped → blocked → x.header.kind = .gate →
          answers (((v.setTimer e ⟨false, 0⟩).beginReturn e).finishReturn e)) ∧
        (¬ stopped → blocked → x.header.kind ≠ .gate → (x.header.kind = .dispenser → (u.activeProfile e).use ≠ .auto) →
          answers ((v.setTimer e ⟨false, 0⟩).settleReturn e)) ∧
        (¬ stopped → blocked → x.header.kind = .dispenser → (u.activeProfile e).use = .auto →
          let w := (v.setTimer e ⟨false, 0⟩).settleReturn e
          let y := w.element e
          let n := (u.activeProfile e).feedPeriod.getD 0
          let empty := y.senseActive .s1
          let waits : Prop := y.feed = .stopped ∧ y.pulse.mode = .shot
          let tuned : Option (Nat × Mode) := match y.feed, y.pulse.pendingTune with
            | .stopped, some (k, .wave) => some (k, .wave)
            | _, _ => none
          (waits → answers (w.setElement e { y with feedPending := true })) ∧
          (¬ waits → answers (w.setElement e { y with
            pulse := ⟨.wave, n, (n + 1) / 2, .first, !empty, !empty, tuned⟩, test := none
            feed := if empty = true then .held else .running
            feedPending := false })))) ∧
    ∀ (eb : Byte) (value : Half), s.Hears 0 →
      let run := exec (.tune 0 eb value) s
      let refused : Byte → Prop := fun status => run = .next (u.answered 0 [status, 0, 0])
      let m := u.clock.state
      let runs : Prop := m = .auto ∨ m = .drive ∨ m = .endgame ∨ m = .halted
      (24 ≤ eb.toNat → refused 0x82) ∧
      ∀ e : Elem, eb.toNat = e.val →
        let x := u.element e
        let stored : Nat → Nat → Prop := fun lo hi =>
          let n := if value.toNat < lo then lo else if hi < value.toNat then hi else value.toNat
          run = .next ((u.setElement e { x with pulse := { x.pulse with pendingTune := some (n, x.pulse.mode) } }).answered 0
            [0x00, byte (n / 256), byte n])
        (¬ runs → refused 0x83) ∧
        (runs → x.header.kind = .gate ∨ x.header.kind = .none ∨ x.pulse.mode = .idle → refused 0x82) ∧
        (runs → x.header.kind = .dispenser → x.pulse.mode = .shot → stored 10 2000) ∧
        (runs → x.header.kind = .dispenser → x.pulse.mode = .wave → stored 200 60000) ∧
        (runs → x.header.kind = .goal → x.pulse.mode = .shot → stored 1 5000) ∧
        (runs → x.header.kind = .beacon → x.pulse.mode = .rate → stored 500 60000)

/-! ## The whole machine -/

/-- R162 to R166, R169, R172: a request on a port that takes none in, or while RST is active, changes nothing
(notes/assumptions/4.md and 5.md). One that is heard is answered with its status byte and the number of answer bytes of Table
9-7 (READ NOTICE and READ SNAPSHOT give theirs in the first); a role it is not open to is answered ROLE; a refusal leaves
what the last tick had left due (notes/assumptions/2.md) and what the complete frame changes. -/
def Obligations.EveryRequestIsAnsweredOnceHeard : Prop :=
  ∀ (c : Instr) (p : Port) (code : Byte) (args : List Byte) (s : State), encodeFrame c = some (p, code :: args) →
    (¬ s.Hears p → exec c s = .next s) ∧
    ∀ row, requestRow code = some row → c.wellFormed = true → s.Hears p →
      let refused : Prop := row.openTo (s.role p) = false
      (c = .roleAnswer p code → refused) →
      ∃ t status bytes, exec c s = .next t ∧ (t.port p).frame = ⟨.answer, [], [], status :: bytes, 0⟩ ∧
        (status.getLsbD 7 = true → t = (s.examined p).answered p (status :: bytes)) ∧
        (refused → status = 0x81 ∧ bytes = List.replicate row.answer 0x00) ∧
        (¬ refused → status ≠ 0x81) ∧
        (code ≠ 0x06 → code ≠ 0x09 → bytes.length = row.answer) ∧
        (code = 0x06 → ∃ n, bytes.head? = some (byte n) ∧ n ≤ 16 ∧ bytes.length = 1 + 8 * n) ∧
        (code = 0x09 → ∃ n, bytes.head? = some (byte n) ∧ bytes.length = 1 + 12 * n)

/-- R8, R24, R25, R156, R161: in CLOSED nothing but NEW MATCH and a reset changes a score; outside SETUP nothing but a reset changes the
timing record or a header; nothing but a reset changes a role or takes the part out of reset. -/
def Obligations.ScoresTimingHeadersAndRolesAreFrozen : Prop :=
  ∀ (c : Instr) (s t : State), exec c s = .next t → (∀ straps sense fs, c ≠ .hardwareReset straps sense fs) →
    (s.clock.state = .closed → (∀ p, c ≠ .newMatch p) → s.SameScores t ∧ t.clock = s.clock) ∧
    (s.clock.state ≠ .setup → t.timing = s.timing ∧ ∀ e, (t.element e).header = (s.element e).header) ∧
    (∀ p, t.role p = s.role p) ∧ (s.rst = true → t.rst = true) ∧ t.pending = s.pending ∧ t.clocks = s.clocks

/-- The frame of every well-formed request decodes to it once its last byte has come and not before, whatever bytes follow, on
every port role it can come from (R163, R164, R165, R171 and Table 9-7). Clocked bit by bit, most significant bit first, the
receiver is in CODE up to the eighth clock and then in ARGUMENTS, with the complete bytes and the bits of the one under way
(R162); the last clock does what the request does. -/
def Obligations.FramesDecodeToTheirRequest : Prop :=
  ∀ (c : Instr) (role : Role) (p : Port) (frame more : List Byte), c.wellFormed = true →
    encodeFrame c = some (p, frame) →
    (∀ code row, frame.head? = some code → requestRow code = some row →
      (row.openTo role = false ↔ c = .roleAnswer p code)) →
    decodeFrame role p (frame ++ more) = some c ∧ (∀ k, k < frame.length → decodeFrame role p (frame.take k) = none) ∧
    ∀ s : State, s.Hears p → s.role p = role →
      let bits := frame.flatMap byteBits
      s.clockAll p bits = exec c s ∧
      ∀ k, k < 8 * frame.length → s.clockAll p (bits.take k) = .next (s.setPort p { s.port p with
        frame := ⟨if k < 8 then .code else .arguments, (bits.take k).drop (8 * (k / 8)), frame.take (k / 8), [], 0⟩ })

/-- R147, R148: "Every accumulator stays within −99,999 to +99,999, and every published score within 0 to 9,999", under every
command in every state. -/
def Obligations.StepKeepsTallyWithinLimits : Prop :=
  ∀ s t : State, s.TallyOk → step s = .next t → t.TallyOk

/-- R154, R179, R182: notice queues and snapshot buffers keep their form under every command. -/
def Obligations.StepKeepsQueuesAndBuffers : Prop :=
  ∀ s t : State, s.QueuesOk → step s = .next t → t.QueuesOk

/-- R3, R8, R19, R32: the phase clock, the timing record and the stage keep their ranges under every command. -/
def Obligations.StepKeepsClockTimingAndStage : Prop :=
  ∀ s t : State, s.ClockOk → step s = .next t → t.ClockOk

/-- R43, R44, R47, R51: the roster keeps its ranges under every command. -/
def Obligations.StepKeepsRoster : Prop :=
  ∀ s t : State, s.RosterOk → step s = .next t → t.RosterOk

/-- R61, R62, R63, R71, R77, R84: the claim table keeps its laws and its mirrors under every command, and with them the law that
whoever has a place in it is bound, CLEAR and on a LIVE link. -/
def Obligations.StepKeepsClaimTable : Prop :=
  (∀ s t : State, s.ClaimsOk → step s = .next t → t.ClaimsOk) ∧
  ∀ s t : State, s.ClaimsOk → s.SeatsOk → step s = .next t → t.SeatsOk

/-- R86: an asserted field stop line keeps its group BLOCKED under every command. -/
def Obligations.StepKeepsFieldStopsBlocking : Prop :=
  ∀ s t : State, s.FieldStopOk → step s = .next t → t.FieldStopOk

/-- R88, R115, R129, Tables 2-1, 2-2 and 5-2: figures, counters, timers and pulse units keep their ranges, and a moving or braking
gate its timing, under every command. -/
def Obligations.StepKeepsElementUnits : Prop :=
  ∀ s t : State, s.UnitsOk → step s = .next t → t.UnitsOk
end

