-- ==== Sys2Proof/Laws/State.lean ====
section
/-! SUPPORT. One lemma per field per update of the state, and the records read back after a write. -/

namespace Sys2Proof.Machine

/-! ## Indexing -/

/-- An entry of a vector by its number. -/
theorem get_eq_getElem {α : Type} {n : Nat} (v : Vector α n) (i : Fin n) : v.get i = v[i.val] := rfl

/-- Every entry of a tabulated vector. -/
@[simp] theorem tabulate_get {α : Type} (n : Nat) (f : Fin n → α) (i : Fin n) : (tabulate n f).get i = f i := by
  simp [tabulate, get_eq_getElem]

/-- Every entry of a rewritten vector. -/
@[simp] theorem rewriteAll_get {α β : Type} {n : Nat} (f : Fin n → α → β) (v : Vector α n) (i : Fin n) :
    (rewriteAll f v).get i = f i (v.get i) := tabulate_get n _ i

/-- Every entry of a constant vector. -/
@[simp] theorem replicate_get {α : Type} {n : Nat} (x : α) (i : Fin n) : (Vector.replicate n x).get i = x := by
  simp [get_eq_getElem]

/-- A vector entry just written. -/
@[simp] theorem get_set_self {α : Type} {n : Nat} (v : Vector α n) (i : Fin n) (x : α) :
    (v.set i.val x i.isLt).get i = x := by
  simp [get_eq_getElem]

/-- A vector entry beside the one written. -/
theorem get_set_ne {α : Type} {n : Nat} (v : Vector α n) (i j : Fin n) (x : α) (h : j ≠ i) :
    (v.set i.val x i.isLt).get j = v.get j := by
  rw [get_eq_getElem, get_eq_getElem]
  exact Vector.getElem_set_ne _ _ fun c => h (Fin.ext c.symm)

/-- Two vectors with the same entries are equal. -/
theorem vector_ext {α : Type} {n : Nat} {v w : Vector α n} (h : ∀ i : Fin n, v.get i = w.get i) : v = w := by
  ext i hi
  exact h ⟨i, hi⟩

/-! ## Records read back -/

@[simp] theorem State.element_setElement_self (e : Elem) (x : Element) (s : State) : (s.setElement e x).element e = x :=
  get_set_self _ _ _
theorem State.element_setElement_ne (e j : Elem) (x : Element) (s : State) (h : j ≠ e) :
    (s.setElement e x).element j = s.element j := get_set_ne _ _ _ _ h
theorem State.element_setElement (e j : Elem) (x : Element) (s : State) :
    (s.setElement e x).element j = if j = e then x else s.element j := by
  by_cases h : j = e
  · subst h; simp
  · simp [h, State.element_setElement_ne]
@[simp] theorem State.element_modifyElement_self (e : Elem) (f : Element → Element) (s : State) :
    (s.modifyElement e f).element e = f (s.element e) := by simp [State.modifyElement]
theorem State.element_modifyElement_ne (e j : Elem) (f : Element → Element) (s : State) (h : j ≠ e) :
    (s.modifyElement e f).element j = s.element j := State.element_setElement_ne _ _ _ _ h
theorem State.element_modifyElement (e j : Elem) (f : Element → Element) (s : State) :
    (s.modifyElement e f).element j = if j = e then f (s.element j) else s.element j := by
  by_cases h : j = e
  · subst h; simp
  · simp [h, State.element_modifyElement_ne]

@[simp] theorem State.robot_setRobot_self (r : Robot) (x : RobotRecord) (s : State) : (s.setRobot r x).robot r = x :=
  get_set_self _ _ _
theorem State.robot_setRobot_ne (r j : Robot) (x : RobotRecord) (s : State) (h : j ≠ r) :
    (s.setRobot r x).robot j = s.robot j := get_set_ne _ _ _ _ h
theorem State.robot_setRobot (r j : Robot) (x : RobotRecord) (s : State) :
    (s.setRobot r x).robot j = if j = r then x else s.robot j := by
  by_cases h : j = r
  · subst h; simp
  · simp [h, State.robot_setRobot_ne]
@[simp] theorem State.robot_modifyRobot_self (r : Robot) (f : RobotRecord → RobotRecord) (s : State) :
    (s.modifyRobot r f).robot r = f (s.robot r) := by simp [State.modifyRobot]
theorem State.robot_modifyRobot_ne (r j : Robot) (f : RobotRecord → RobotRecord) (s : State) (h : j ≠ r) :
    (s.modifyRobot r f).robot j = s.robot j := State.robot_setRobot_ne _ _ _ _ h
theorem State.robot_modifyRobot (r j : Robot) (f : RobotRecord → RobotRecord) (s : State) :
    (s.modifyRobot r f).robot j = if j = r then f (s.robot j) else s.robot j := by
  by_cases h : j = r
  · subst h; simp
  · simp [h, State.robot_modifyRobot_ne]

@[simp] theorem State.port_setPort_self (p : Port) (x : PortRecord) (s : State) : (s.setPort p x).port p = x :=
  get_set_self _ _ _
theorem State.port_setPort_ne (p j : Port) (x : PortRecord) (s : State) (h : j ≠ p) :
    (s.setPort p x).port j = s.port j := get_set_ne _ _ _ _ h
theorem State.port_setPort (p j : Port) (x : PortRecord) (s : State) :
    (s.setPort p x).port j = if j = p then x else s.port j := by
  by_cases h : j = p
  · subst h; simp
  · simp [h, State.port_setPort_ne]
@[simp] theorem State.port_modifyPort_self (p : Port) (f : PortRecord → PortRecord) (s : State) :
    (s.modifyPort p f).port p = f (s.port p) := by simp [State.modifyPort]
theorem State.port_modifyPort_ne (p j : Port) (f : PortRecord → PortRecord) (s : State) (h : j ≠ p) :
    (s.modifyPort p f).port j = s.port j := State.port_setPort_ne _ _ _ _ h
theorem State.port_modifyPort (p j : Port) (f : PortRecord → PortRecord) (s : State) :
    (s.modifyPort p f).port j = if j = p then f (s.port j) else s.port j := by
  by_cases h : j = p
  · subst h; simp
  · simp [h, State.port_modifyPort_ne]

@[simp] theorem State.stop_setStop_self (g : Group) (x : FieldStop) (s : State) : (s.setStop g x).stop g = x :=
  get_set_self _ _ _
theorem State.stop_setStop_ne (g j : Group) (x : FieldStop) (s : State) (h : j ≠ g) :
    (s.setStop g x).stop j = s.stop j := get_set_ne _ _ _ _ h
theorem State.stop_setStop (g j : Group) (x : FieldStop) (s : State) :
    (s.setStop g x).stop j = if j = g then x else s.stop j := by
  by_cases h : j = g
  · subst h; simp
  · simp [h, State.stop_setStop_ne]

/-! ## One lemma per field per update -/

@[simp] theorem State.setElement_clock (e : Elem) (x : Element) (s : State) :
    (s.setElement e x).clock = s.clock := rfl
@[simp] theorem State.setElement_timing (e : Elem) (x : Element) (s : State) :
    (s.setElement e x).timing = s.timing := rfl
@[simp] theorem State.setElement_stage (e : Elem) (x : Element) (s : State) :
    (s.setElement e x).stage = s.stage := rfl
@[simp] theorem State.setElement_robots (e : Elem) (x : Element) (s : State) :
    (s.setElement e x).robots = s.robots := rfl
@[simp] theorem State.setElement_stops (e : Elem) (x : Element) (s : State) :
    (s.setElement e x).stops = s.stops := rfl
@[simp] theorem State.setElement_accumulators (e : Elem) (x : Element) (s : State) :
    (s.setElement e x).accumulators = s.accumulators := rfl
@[simp] theorem State.setElement_published (e : Elem) (x : Element) (s : State) :
    (s.setElement e x).published = s.published := rfl
@[simp] theorem State.setElement_ports (e : Elem) (x : Element) (s : State) :
    (s.setElement e x).ports = s.ports := rfl
@[simp] theorem State.setElement_rst (e : Elem) (x : Element) (s : State) :
    (s.setElement e x).rst = s.rst := rfl
@[simp] theorem State.setElement_boundaries (e : Elem) (x : Element) (s : State) :
    (s.setElement e x).boundaries = s.boundaries := rfl
@[simp] theorem State.setElement_pending (e : Elem) (x : Element) (s : State) :
    (s.setElement e x).pending = s.pending := rfl
@[simp] theorem State.setElement_clocks (e : Elem) (x : Element) (s : State) :
    (s.setElement e x).clocks = s.clocks := rfl
@[simp] theorem State.setElement_robot (e : Elem) (x : Element) (s : State) (r' : Robot) :
    (s.setElement e x).robot r' = s.robot r' := rfl
@[simp] theorem State.setElement_port (e : Elem) (x : Element) (s : State) (p' : Port) :
    (s.setElement e x).port p' = s.port p' := rfl
@[simp] theorem State.setElement_stop (e : Elem) (x : Element) (s : State) (g' : Group) :
    (s.setElement e x).stop g' = s.stop g' := rfl

@[simp] theorem State.setRobot_clock (r : Robot) (x : RobotRecord) (s : State) :
    (s.setRobot r x).clock = s.clock := rfl
@[simp] theorem State.setRobot_timing (r : Robot) (x : RobotRecord) (s : State) :
    (s.setRobot r x).timing = s.timing := rfl
@[simp] theorem State.setRobot_elements (r : Robot) (x : RobotRecord) (s : State) :
    (s.setRobot r x).elements = s.elements := rfl
@[simp] theorem State.setRobot_stage (r : Robot) (x : RobotRecord) (s : State) :
    (s.setRobot r x).stage = s.stage := rfl
@[simp] theorem State.setRobot_stops (r : Robot) (x : RobotRecord) (s : State) :
    (s.setRobot r x).stops = s.stops := rfl
@[simp] theorem State.setRobot_accumulators (r : Robot) (x : RobotRecord) (s : State) :
    (s.setRobot r x).accumulators = s.accumulators := rfl
@[simp] theorem State.setRobot_published (r : Robot) (x : RobotRecord) (s : State) :
    (s.setRobot r x).published = s.published := rfl
@[simp] theorem State.setRobot_ports (r : Robot) (x : RobotRecord) (s : State) :
    (s.setRobot r x).ports = s.ports := rfl
@[simp] theorem State.setRobot_rst (r : Robot) (x : RobotRecord) (s : State) :
    (s.setRobot r x).rst = s.rst := rfl
@[simp] theorem State.setRobot_boundaries (r : Robot) (x : RobotRecord) (s : State) :
    (s.setRobot r x).boundaries = s.boundaries := rfl
@[simp] theorem State.setRobot_pending (r : Robot) (x : RobotRecord) (s : State) :
    (s.setRobot r x).pending = s.pending := rfl
@[simp] theorem State.setRobot_clocks (r : Robot) (x : RobotRecord) (s : State) :
    (s.setRobot r x).clocks = s.clocks := rfl
@[simp] theorem State.setRobot_element (r : Robot) (x : RobotRecord) (s : State) (e' : Elem) :
    (s.setRobot r x).element e' = s.element e' := rfl
@[simp] theorem State.setRobot_claim (r : Robot) (x : RobotRecord) (s : State) (e' : Elem) :
    (s.setRobot r x).claim e' = s.claim e' := rfl
@[simp] theorem State.setRobot_port (r : Robot) (x : RobotRecord) (s : State) (p' : Port) :
    (s.setRobot r x).port p' = s.port p' := rfl
@[simp] theorem State.setRobot_stop (r : Robot) (x : RobotRecord) (s : State) (g' : Group) :
    (s.setRobot r x).stop g' = s.stop g' := rfl

@[simp] theorem State.setPort_clock (p : Port) (x : PortRecord) (s : State) :
    (s.setPort p x).clock = s.clock := rfl
@[simp] theorem State.setPort_timing (p : Port) (x : PortRecord) (s : State) :
    (s.setPort p x).timing = s.timing := rfl
@[simp] theorem State.setPort_elements (p : Port) (x : PortRecord) (s : State) :
    (s.setPort p x).elements = s.elements := rfl
@[simp] theorem State.setPort_stage (p : Port) (x : PortRecord) (s : State) :
    (s.setPort p x).stage = s.stage := rfl
@[simp] theorem State.setPort_robots (p : Port) (x : PortRecord) (s : State) :
    (s.setPort p x).robots = s.robots := rfl
@[simp] theorem State.setPort_stops (p : Port) (x : PortRecord) (s : State) :
    (s.setPort p x).stops = s.stops := rfl
@[simp] theorem State.setPort_accumulators (p : Port) (x : PortRecord) (s : State) :
    (s.setPort p x).accumulators = s.accumulators := rfl
@[simp] theorem State.setPort_published (p : Port) (x : PortRecord) (s : State) :
    (s.setPort p x).published = s.published := rfl
@[simp] theorem State.setPort_rst (p : Port) (x : PortRecord) (s : State) :
    (s.setPort p x).rst = s.rst := rfl
@[simp] theorem State.setPort_boundaries (p : Port) (x : PortRecord) (s : State) :
    (s.setPort p x).boundaries = s.boundaries := rfl
@[simp] theorem State.setPort_pending (p : Port) (x : PortRecord) (s : State) :
    (s.setPort p x).pending = s.pending := rfl
@[simp] theorem State.setPort_clocks (p : Port) (x : PortRecord) (s : State) :
    (s.setPort p x).clocks = s.clocks := rfl
@[simp] theorem State.setPort_element (p : Port) (x : PortRecord) (s : State) (e' : Elem) :
    (s.setPort p x).element e' = s.element e' := rfl
@[simp] theorem State.setPort_claim (p : Port) (x : PortRecord) (s : State) (e' : Elem) :
    (s.setPort p x).claim e' = s.claim e' := rfl
@[simp] theorem State.setPort_robot (p : Port) (x : PortRecord) (s : State) (r' : Robot) :
    (s.setPort p x).robot r' = s.robot r' := rfl
@[simp] theorem State.setPort_stop (p : Port) (x : PortRecord) (s : State) (g' : Group) :
    (s.setPort p x).stop g' = s.stop g' := rfl

@[simp] theorem State.setStop_clock (g : Group) (x : FieldStop) (s : State) :
    (s.setStop g x).clock = s.clock := rfl
@[simp] theorem State.setStop_timing (g : Group) (x : FieldStop) (s : State) :
    (s.setStop g x).timing = s.timing := rfl
@[simp] theorem State.setStop_elements (g : Group) (x : FieldStop) (s : State) :
    (s.setStop g x).elements = s.elements := rfl
@[simp] theorem State.setStop_stage (g : Group) (x : FieldStop) (s : State) :
    (s.setStop g x).stage = s.stage := rfl
@[simp] theorem State.setStop_robots (g : Group) (x : FieldStop) (s : State) :
    (s.setStop g x).robots = s.robots := rfl
@[simp] theorem State.setStop_accumulators (g : Group) (x : FieldStop) (s : State) :
    (s.setStop g x).accumulators = s.accumulators := rfl
@[simp] theorem State.setStop_published (g : Group) (x : FieldStop) (s : State) :
    (s.setStop g x).published = s.published := rfl
@[simp] theorem State.setStop_ports (g : Group) (x : FieldStop) (s : State) :
    (s.setStop g x).ports = s.ports := rfl
@[simp] theorem State.setStop_rst (g : Group) (x : FieldStop) (s : State) :
    (s.setStop g x).rst = s.rst := rfl
@[simp] theorem State.setStop_boundaries (g : Group) (x : FieldStop) (s : State) :
    (s.setStop g x).boundaries = s.boundaries := rfl
@[simp] theorem State.setStop_pending (g : Group) (x : FieldStop) (s : State) :
    (s.setStop g x).pending = s.pending := rfl
@[simp] theorem State.setStop_clocks (g : Group) (x : FieldStop) (s : State) :
    (s.setStop g x).clocks = s.clocks := rfl
@[simp] theorem State.setStop_element (g : Group) (x : FieldStop) (s : State) (e' : Elem) :
    (s.setStop g x).element e' = s.element e' := rfl
@[simp] theorem State.setStop_claim (g : Group) (x : FieldStop) (s : State) (e' : Elem) :
    (s.setStop g x).claim e' = s.claim e' := rfl
@[simp] theorem State.setStop_robot (g : Group) (x : FieldStop) (s : State) (r' : Robot) :
    (s.setStop g x).robot r' = s.robot r' := rfl
@[simp] theorem State.setStop_port (g : Group) (x : FieldStop) (s : State) (p' : Port) :
    (s.setStop g x).port p' = s.port p' := rfl

@[simp] theorem State.setClock_timing (c : Clock) (s : State) :
    (s.setClock c).timing = s.timing := rfl
@[simp] theorem State.setClock_elements (c : Clock) (s : State) :
    (s.setClock c).elements = s.elements := rfl
@[simp] theorem State.setClock_stage (c : Clock) (s : State) :
    (s.setClock c).stage = s.stage := rfl
@[simp] theorem State.setClock_robots (c : Clock) (s : State) :
    (s.setClock c).robots = s.robots := rfl
@[simp] theorem State.setClock_stops (c : Clock) (s : State) :
    (s.setClock c).stops = s.stops := rfl
@[simp] theorem State.setClock_accumulators (c : Clock) (s : State) :
    (s.setClock c).accumulators = s.accumulators := rfl
@[simp] theorem State.setClock_published (c : Clock) (s : State) :
    (s.setClock c).published = s.published := rfl
@[simp] theorem State.setClock_ports (c : Clock) (s : State) :
    (s.setClock c).ports = s.ports := rfl
@[simp] theorem State.setClock_rst (c : Clock) (s : State) :
    (s.setClock c).rst = s.rst := rfl
@[simp] theorem State.setClock_boundaries (c : Clock) (s : State) :
    (s.setClock c).boundaries = s.boundaries := rfl
@[simp] theorem State.setClock_pending (c : Clock) (s : State) :
    (s.setClock c).pending = s.pending := rfl
@[simp] theorem State.setClock_clocks (c : Clock) (s : State) :
    (s.setClock c).clocks = s.clocks := rfl
@[simp] theorem State.setClock_element (c : Clock) (s : State) (e' : Elem) :
    (s.setClock c).element e' = s.element e' := rfl
@[simp] theorem State.setClock_claim (c : Clock) (s : State) (e' : Elem) :
    (s.setClock c).claim e' = s.claim e' := rfl
@[simp] theorem State.setClock_robot (c : Clock) (s : State) (r' : Robot) :
    (s.setClock c).robot r' = s.robot r' := rfl
@[simp] theorem State.setClock_port (c : Clock) (s : State) (p' : Port) :
    (s.setClock c).port p' = s.port p' := rfl
@[simp] theorem State.setClock_stop (c : Clock) (s : State) (g' : Group) :
    (s.setClock c).stop g' = s.stop g' := rfl

@[simp] theorem State.withPending_clock (q : List Instr) (s : State) :
    (s.withPending q).clock = s.clock := rfl
@[simp] theorem State.withPending_timing (q : List Instr) (s : State) :
    (s.withPending q).timing = s.timing := rfl
@[simp] theorem State.withPending_elements (q : List Instr) (s : State) :
    (s.withPending q).elements = s.elements := rfl
@[simp] theorem State.withPending_stage (q : List Instr) (s : State) :
    (s.withPending q).stage = s.stage := rfl
@[simp] theorem State.withPending_robots (q : List Instr) (s : State) :
    (s.withPending q).robots = s.robots := rfl
@[simp] theorem State.withPending_stops (q : List Instr) (s : State) :
    (s.withPending q).stops = s.stops := rfl
@[simp] theorem State.withPending_accumulators (q : List Instr) (s : State) :
    (s.withPending q).accumulators = s.accumulators := rfl
@[simp] theorem State.withPending_published (q : List Instr) (s : State) :
    (s.withPending q).published = s.published := rfl
@[simp] theorem State.withPending_ports (q : List Instr) (s : State) :
    (s.withPending q).ports = s.ports := rfl
@[simp] theorem State.withPending_rst (q : List Instr) (s : State) :
    (s.withPending q).rst = s.rst := rfl
@[simp] theorem State.withPending_boundaries (q : List Instr) (s : State) :
    (s.withPending q).boundaries = s.boundaries := rfl
@[simp] theorem State.withPending_element (q : List Instr) (s : State) (e' : Elem) :
    (s.withPending q).element e' = s.element e' := rfl
@[simp] theorem State.withPending_claim (q : List Instr) (s : State) (e' : Elem) :
    (s.withPending q).claim e' = s.claim e' := rfl
@[simp] theorem State.withPending_robot (q : List Instr) (s : State) (r' : Robot) :
    (s.withPending q).robot r' = s.robot r' := rfl
@[simp] theorem State.withPending_port (q : List Instr) (s : State) (p' : Port) :
    (s.withPending q).port p' = s.port p' := rfl
@[simp] theorem State.withPending_stop (q : List Instr) (s : State) (g' : Group) :
    (s.withPending q).stop g' = s.stop g' := rfl
@[simp] theorem State.withPending_clocks (q : List Instr) (s : State) :
    (s.withPending q).clocks = s.clocks := rfl

@[simp] theorem State.withClocks_clock (q : List (Port × Bool)) (s : State) :
    (s.withClocks q).clock = s.clock := rfl
@[simp] theorem State.withClocks_timing (q : List (Port × Bool)) (s : State) :
    (s.withClocks q).timing = s.timing := rfl
@[simp] theorem State.withClocks_elements (q : List (Port × Bool)) (s : State) :
    (s.withClocks q).elements = s.elements := rfl
@[simp] theorem State.withClocks_stage (q : List (Port × Bool)) (s : State) :
    (s.withClocks q).stage = s.stage := rfl
@[simp] theorem State.withClocks_robots (q : List (Port × Bool)) (s : State) :
    (s.withClocks q).robots = s.robots := rfl
@[simp] theorem State.withClocks_stops (q : List (Port × Bool)) (s : State) :
    (s.withClocks q).stops = s.stops := rfl
@[simp] theorem State.withClocks_accumulators (q : List (Port × Bool)) (s : State) :
    (s.withClocks q).accumulators = s.accumulators := rfl
@[simp] theorem State.withClocks_published (q : List (Port × Bool)) (s : State) :
    (s.withClocks q).published = s.published := rfl
@[simp] theorem State.withClocks_ports (q : List (Port × Bool)) (s : State) :
    (s.withClocks q).ports = s.ports := rfl
@[simp] theorem State.withClocks_rst (q : List (Port × Bool)) (s : State) :
    (s.withClocks q).rst = s.rst := rfl
@[simp] theorem State.withClocks_boundaries (q : List (Port × Bool)) (s : State) :
    (s.withClocks q).boundaries = s.boundaries := rfl
@[simp] theorem State.withClocks_element (q : List (Port × Bool)) (s : State) (e' : Elem) :
    (s.withClocks q).element e' = s.element e' := rfl
@[simp] theorem State.withClocks_claim (q : List (Port × Bool)) (s : State) (e' : Elem) :
    (s.withClocks q).claim e' = s.claim e' := rfl
@[simp] theorem State.withClocks_robot (q : List (Port × Bool)) (s : State) (r' : Robot) :
    (s.withClocks q).robot r' = s.robot r' := rfl
@[simp] theorem State.withClocks_port (q : List (Port × Bool)) (s : State) (p' : Port) :
    (s.withClocks q).port p' = s.port p' := rfl
@[simp] theorem State.withClocks_stop (q : List (Port × Bool)) (s : State) (g' : Group) :
    (s.withClocks q).stop g' = s.stop g' := rfl
@[simp] theorem State.withClocks_pending (q : List (Port × Bool)) (s : State) :
    (s.withClocks q).pending = s.pending := rfl

@[simp] theorem State.modifyElement_clock (e : Elem) (f : Element → Element) (s : State) :
    (s.modifyElement e f).clock = s.clock := rfl
@[simp] theorem State.modifyElement_timing (e : Elem) (f : Element → Element) (s : State) :
    (s.modifyElement e f).timing = s.timing := rfl
@[simp] theorem State.modifyElement_stage (e : Elem) (f : Element → Element) (s : State) :
    (s.modifyElement e f).stage = s.stage := rfl
@[simp] theorem State.modifyElement_robots (e : Elem) (f : Element → Element) (s : State) :
    (s.modifyElement e f).robots = s.robots := rfl
@[simp] theorem State.modifyElement_stops (e : Elem) (f : Element → Element) (s : State) :
    (s.modifyElement e f).stops = s.stops := rfl
@[simp] theorem State.modifyElement_accumulators (e : Elem) (f : Element → Element) (s : State) :
    (s.modifyElement e f).accumulators = s.accumulators := rfl
@[simp] theorem State.modifyElement_published (e : Elem) (f : Element → Element) (s : State) :
    (s.modifyElement e f).published = s.published := rfl
@[simp] theorem State.modifyElement_ports (e : Elem) (f : Element → Element) (s : State) :
    (s.modifyElement e f).ports = s.ports := rfl
@[simp] theorem State.modifyElement_rst (e : Elem) (f : Element → Element) (s : State) :
    (s.modifyElement e f).rst = s.rst := rfl
@[simp] theorem State.modifyElement_boundaries (e : Elem) (f : Element → Element) (s : State) :
    (s.modifyElement e f).boundaries = s.boundaries := rfl
@[simp] theorem State.modifyElement_pending (e : Elem) (f : Element → Element) (s : State) :
    (s.modifyElement e f).pending = s.pending := rfl
@[simp] theorem State.modifyElement_clocks (e : Elem) (f : Element → Element) (s : State) :
    (s.modifyElement e f).clocks = s.clocks := rfl
@[simp] theorem State.modifyElement_robot (e : Elem) (f : Element → Element) (s : State) (r' : Robot) :
    (s.modifyElement e f).robot r' = s.robot r' := rfl
@[simp] theorem State.modifyElement_port (e : Elem) (f : Element → Element) (s : State) (p' : Port) :
    (s.modifyElement e f).port p' = s.port p' := rfl
@[simp] theorem State.modifyElement_stop (e : Elem) (f : Element → Element) (s : State) (g' : Group) :
    (s.modifyElement e f).stop g' = s.stop g' := rfl

@[simp] theorem State.modifyRobot_clock (r : Robot) (f : RobotRecord → RobotRecord) (s : State) :
    (s.modifyRobot r f).clock = s.clock := rfl
@[simp] theorem State.modifyRobot_timing (r : Robot) (f : RobotRecord → RobotRecord) (s : State) :
    (s.modifyRobot r f).timing = s.timing := rfl
@[simp] theorem State.modifyRobot_elements (r : Robot) (f : RobotRecord → RobotRecord) (s : State) :
    (s.modifyRobot r f).elements = s.elements := rfl
@[simp] theorem State.modifyRobot_stage (r : Robot) (f : RobotRecord → RobotRecord) (s : State) :
    (s.modifyRobot r f).stage = s.stage := rfl
@[simp] theorem State.modifyRobot_stops (r : Robot) (f : RobotRecord → RobotRecord) (s : State) :
    (s.modifyRobot r f).stops = s.stops := rfl
@[simp] theorem State.modifyRobot_accumulators (r : Robot) (f : RobotRecord → RobotRecord) (s : State) :
    (s.modifyRobot r f).accumulators = s.accumulators := rfl
@[simp] theorem State.modifyRobot_published (r : Robot) (f : RobotRecord → RobotRecord) (s : State) :
    (s.modifyRobot r f).published = s.published := rfl
@[simp] theorem State.modifyRobot_ports (r : Robot) (f : RobotRecord → RobotRecord) (s : State) :
    (s.modifyRobot r f).ports = s.ports := rfl
@[simp] theorem State.modifyRobot_rst (r : Robot) (f : RobotRecord → RobotRecord) (s : State) :
    (s.modifyRobot r f).rst = s.rst := rfl
@[simp] theorem State.modifyRobot_boundaries (r : Robot) (f : RobotRecord → RobotRecord) (s : State) :
    (s.modifyRobot r f).boundaries = s.boundaries := rfl
@[simp] theorem State.modifyRobot_pending (r : Robot) (f : RobotRecord → RobotRecord) (s : State) :
    (s.modifyRobot r f).pending = s.pending := rfl
@[simp] theorem State.modifyRobot_clocks (r : Robot) (f : RobotRecord → RobotRecord) (s : State) :
    (s.modifyRobot r f).clocks = s.clocks := rfl
@[simp] theorem State.modifyRobot_element (r : Robot) (f : RobotRecord → RobotRecord) (s : State) (e' : Elem) :
    (s.modifyRobot r f).element e' = s.element e' := rfl
@[simp] theorem State.modifyRobot_claim (r : Robot) (f : RobotRecord → RobotRecord) (s : State) (e' : Elem) :
    (s.modifyRobot r f).claim e' = s.claim e' := rfl
@[simp] theorem State.modifyRobot_port (r : Robot) (f : RobotRecord → RobotRecord) (s : State) (p' : Port) :
    (s.modifyRobot r f).port p' = s.port p' := rfl
@[simp] theorem State.modifyRobot_stop (r : Robot) (f : RobotRecord → RobotRecord) (s : State) (g' : Group) :
    (s.modifyRobot r f).stop g' = s.stop g' := rfl

@[simp] theorem State.modifyPort_clock (p : Port) (f : PortRecord → PortRecord) (s : State) :
    (s.modifyPort p f).clock = s.clock := rfl
@[simp] theorem State.modifyPort_timing (p : Port) (f : PortRecord → PortRecord) (s : State) :
    (s.modifyPort p f).timing = s.timing := rfl
@[simp] theorem State.modifyPort_elements (p : Port) (f : PortRecord → PortRecord) (s : State) :
    (s.modifyPort p f).elements = s.elements := rfl
@[simp] theorem State.modifyPort_stage (p : Port) (f : PortRecord → PortRecord) (s : State) :
    (s.modifyPort p f).stage = s.stage := rfl
@[simp] theorem State.modifyPort_robots (p : Port) (f : PortRecord → PortRecord) (s : State) :
    (s.modifyPort p f).robots = s.robots := rfl
@[simp] theorem State.modifyPort_stops (p : Port) (f : PortRecord → PortRecord) (s : State) :
    (s.modifyPort p f).stops = s.stops := rfl
@[simp] theorem State.modifyPort_accumulators (p : Port) (f : PortRecord → PortRecord) (s : State) :
    (s.modifyPort p f).accumulators = s.accumulators := rfl
@[simp] theorem State.modifyPort_published (p : Port) (f : PortRecord → PortRecord) (s : State) :
    (s.modifyPort p f).published = s.published := rfl
@[simp] theorem State.modifyPort_rst (p : Port) (f : PortRecord → PortRecord) (s : State) :
    (s.modifyPort p f).rst = s.rst := rfl
@[simp] theorem State.modifyPort_boundaries (p : Port) (f : PortRecord → PortRecord) (s : State) :
    (s.modifyPort p f).boundaries = s.boundaries := rfl
@[simp] theorem State.modifyPort_pending (p : Port) (f : PortRecord → PortRecord) (s : State) :
    (s.modifyPort p f).pending = s.pending := rfl
@[simp] theorem State.modifyPort_clocks (p : Port) (f : PortRecord → PortRecord) (s : State) :
    (s.modifyPort p f).clocks = s.clocks := rfl
@[simp] theorem State.modifyPort_element (p : Port) (f : PortRecord → PortRecord) (s : State) (e' : Elem) :
    (s.modifyPort p f).element e' = s.element e' := rfl
@[simp] theorem State.modifyPort_claim (p : Port) (f : PortRecord → PortRecord) (s : State) (e' : Elem) :
    (s.modifyPort p f).claim e' = s.claim e' := rfl
@[simp] theorem State.modifyPort_robot (p : Port) (f : PortRecord → PortRecord) (s : State) (r' : Robot) :
    (s.modifyPort p f).robot r' = s.robot r' := rfl
@[simp] theorem State.modifyPort_stop (p : Port) (f : PortRecord → PortRecord) (s : State) (g' : Group) :
    (s.modifyPort p f).stop g' = s.stop g' := rfl

@[simp] theorem State.setTimer_clock (e : Elem) (t : ClaimTimer) (s : State) :
    (s.setTimer e t).clock = s.clock := rfl
@[simp] theorem State.setTimer_timing (e : Elem) (t : ClaimTimer) (s : State) :
    (s.setTimer e t).timing = s.timing := rfl
@[simp] theorem State.setTimer_stage (e : Elem) (t : ClaimTimer) (s : State) :
    (s.setTimer e t).stage = s.stage := rfl
@[simp] theorem State.setTimer_robots (e : Elem) (t : ClaimTimer) (s : State) :
    (s.setTimer e t).robots = s.robots := rfl
@[simp] theorem State.setTimer_stops (e : Elem) (t : ClaimTimer) (s : State) :
    (s.setTimer e t).stops = s.stops := rfl
@[simp] theorem State.setTimer_accumulators (e : Elem) (t : ClaimTimer) (s : State) :
    (s.setTimer e t).accumulators = s.accumulators := rfl
@[simp] theorem State.setTimer_published (e : Elem) (t : ClaimTimer) (s : State) :
    (s.setTimer e t).published = s.published := rfl
@[simp] theorem State.setTimer_ports (e : Elem) (t : ClaimTimer) (s : State) :
    (s.setTimer e t).ports = s.ports := rfl
@[simp] theorem State.setTimer_rst (e : Elem) (t : ClaimTimer) (s : State) :
    (s.setTimer e t).rst = s.rst := rfl
@[simp] theorem State.setTimer_boundaries (e : Elem) (t : ClaimTimer) (s : State) :
    (s.setTimer e t).boundaries = s.boundaries := rfl
@[simp] theorem State.setTimer_pending (e : Elem) (t : ClaimTimer) (s : State) :
    (s.setTimer e t).pending = s.pending := rfl
@[simp] theorem State.setTimer_clocks (e : Elem) (t : ClaimTimer) (s : State) :
    (s.setTimer e t).clocks = s.clocks := rfl
@[simp] theorem State.setTimer_robot (e : Elem) (t : ClaimTimer) (s : State) (r' : Robot) :
    (s.setTimer e t).robot r' = s.robot r' := rfl
@[simp] theorem State.setTimer_port (e : Elem) (t : ClaimTimer) (s : State) (p' : Port) :
    (s.setTimer e t).port p' = s.port p' := rfl
@[simp] theorem State.setTimer_stop (e : Elem) (t : ClaimTimer) (s : State) (g' : Group) :
    (s.setTimer e t).stop g' = s.stop g' := rfl

@[simp] theorem State.setClock_self (c : Clock) (s : State) : (s.setClock c).clock = c := rfl
@[simp] theorem State.withClocks_self (q : List (Port × Bool)) (s : State) : (s.withClocks q).clocks = q := rfl
@[simp] theorem State.withPending_self (q : List Instr) (s : State) : (s.withPending q).pending = q := rfl

end Sys2Proof.Machine
end

