-- ==== Sys2Proof/Laws/Ops.lean ====
section
/-! SUPPORT. What each named operation of Machine/Ops.lean does: repeated actions, notices and queues, claim records and
their mirrors. -/

namespace Sys2Proof.Machine

/-! ## Repeated actions -/

@[simp] theorem State.forEach_nil {ι : Type} (act : ι → State → State) (s : State) : s.forEach [] act = s := rfl
@[simp] theorem State.forEach_cons {ι : Type} (i : ι) (xs : List ι) (act : ι → State → State) (s : State) :
    s.forEach (i :: xs) act = (act i s).forEach xs act := rfl

/-- What every action keeps, the whole run keeps. -/
theorem State.forEach_keeps {ι : Type} (P : State → Prop) {xs : List ι} {act : ι → State → State}
    (step : ∀ i ∈ xs, ∀ s, P s → P (act i s)) {s : State} (h : P s) : P (s.forEach xs act) := by
  induction xs generalizing s with
  | nil => exact h
  | cons i xs ih => exact ih (fun j hj => step j (.tail _ hj)) (step i (.head _) s h)

/-- A relation that every action respects, the whole run respects. -/
theorem State.forEach_rel {ι : Type} (R : State → State → Prop) (refl : ∀ s, R s s)
    (trans : ∀ {a b c}, R a b → R b c → R a c) {xs : List ι} {act : ι → State → State}
    (step : ∀ i s, R s (act i s)) (s : State) : R s (s.forEach xs act) := by
  induction xs generalizing s with
  | nil => exact refl s
  | cons i xs ih => exact trans (step i s) (ih _)

/-- A run of actions none of which has anything to do. -/
theorem State.forEach_idle {ι : Type} {xs : List ι} {act : ι → State → State} {s : State}
    (h : ∀ i ∈ xs, act i s = s) : s.forEach xs act = s := by
  induction xs with
  | nil => rfl
  | cons i xs ih =>
    rw [State.forEach_cons, h i (.head _)]
    exact ih fun j hj => h j (.tail _ hj)

/-- A run of due events none of which is due. -/
theorem State.takeEach_idle {ι : Type} {xs : List ι} {due : State → ι → Bool} {act : ι → State → State} {s : State}
    (h : ∀ i ∈ xs, due s i = false) : s.takeEach xs due act = s :=
  State.forEach_idle fun i hi => by simp [h i hi]

theorem mem_allElems (e : Elem) : e ∈ allElems := List.mem_finRange e
theorem mem_allRobots (r : Robot) : r ∈ allRobots := List.mem_finRange r
theorem mem_allPorts (p : Port) : p ∈ allPorts := List.mem_finRange p
theorem mem_allGroups (g : Group) : g ∈ allGroups := List.mem_finRange g
theorem mem_allAlliances (a : Alliance) : a ∈ allAlliances := List.mem_finRange a

/-! ## Argument bytes -/

/-- An index read from a byte in range. -/
theorem indexOf_some {n : Nat} {b : Byte} {i : Fin n} : indexOf n b = some i ↔ b.toNat = i.val := by
  unfold indexOf
  split
  · simp [Fin.ext_iff]
  · rename_i h
    simp only [reduceCtorEq, false_iff]
    intro hi
    exact h (hi ▸ i.isLt)

/-- A byte out of range names no index. -/
theorem indexOf_none {n : Nat} {b : Byte} : indexOf n b = none ↔ n ≤ b.toNat := by
  unfold indexOf
  split
  · simp; omega
  · simp; omega

/-! ## Notices (R176 to R179) -/

/-- Handing a record changes the ports alone. -/
theorem State.hand_eq (n : Notice) (s : State) : s.hand n = { s with ports := (s.hand n).ports } := rfl
/-- Raising a record changes the ports alone. -/
theorem State.raise_eq (k : NoticeKind) (re : Option Reason) (r : Option Robot) (e : Option Elem) (v : Option Int)
    (s : State) : s.raise k re r e v = { s with ports := (s.raise k re r e v).ports } := rfl
/-- Raising a ROBOT record changes the ports alone. -/
theorem State.raiseRobot_eq (re : Reason) (r : Robot) (s : State) :
    s.raiseRobot re r = { s with ports := (s.raiseRobot re r).ports } := rfl

/-- A port after a record is handed. -/
theorem State.hand_port (n : Notice) (s : State) (p : Port) :
    (s.hand n).port p = if s.routes n p then { s.port p with queue := enqueue (s.port p).queue n } else s.port p := by
  simp [State.hand, State.port]

/-- A record handed enters the queues of R177 by R179. -/
theorem State.hand_handed (n : Notice) (s : State) : s.Handed n (s.hand n) := by
  intro p
  rw [State.hand_port]
  split <;> rfl

/-- A record handed changes no port beside its queue. -/
theorem State.hand_samePorts (n : Notice) (s : State) : s.SamePorts (s.hand n) := by
  intro p
  rw [State.hand_port]
  split <;> rfl

/-- A record raised enters the queues of R177 by R179. -/
theorem State.raise_handed (k : NoticeKind) (re : Option Reason) (r : Option Robot) (e : Option Elem) (v : Option Int)
    (s : State) : s.Handed (s.notice k re r e v) (s.raise k re r e v) := State.hand_handed _ s

/-- The rewriting of R154 keeps the number of entries. -/
theorem map_coalesce_length (q : List Notice) (n : Notice) :
    (q.map fun entry => if n.coalesces entry then n else entry).length = q.length := List.length_map _

/-- The four outcomes of an entry (Table 10-3). -/
theorem enqueue_cases (q : List Notice) (n : Notice) :
    (q.any n.coalesces = true ∧ enqueue q n = q.map fun entry => if n.coalesces entry then n else entry) ∨
    (q.any n.coalesces = false ∧ (q.any fun entry => entry.kind = .overflow) = true ∧ enqueue q n = q) ∨
    (q.any n.coalesces = false ∧ (q.any fun entry => entry.kind = .overflow) = false ∧ q.length < 15 ∧
      enqueue q n = q ++ [n]) ∨
    (q.any n.coalesces = false ∧ (q.any fun entry => entry.kind = .overflow) = false ∧ 15 ≤ q.length ∧
      enqueue q n = q ++ [n.overflow]) := by
  unfold enqueue Config.queueLast
  cases h : q.any n.coalesces <;> cases h' : q.any fun entry => decide (entry.kind = .overflow) <;>
    by_cases h'' : q.length < 15 <;> simp [h'', Nat.not_lt.mp]

/-! ## Claim records and their mirrors (R43, R61) -/

/-- The mirrors depend on the claim table alone. -/
theorem State.heldBy_congr {s t : State} (h : ∀ e, t.claim e = s.claim e) (r : Robot) : t.heldBy r = s.heldBy r := by
  simp [State.heldBy, h]
/-- The mirrors depend on the claim table alone. -/
theorem State.waitOf_congr {s t : State} (h : ∀ e, t.claim e = s.claim e) (r : Robot) : t.waitOf r = s.waitOf r := by
  simp [State.waitOf, h]

@[simp] theorem State.mirror_element (s : State) (e : Elem) : s.mirror.element e = s.element e := rfl
@[simp] theorem State.mirror_claim (s : State) (e : Elem) : s.mirror.claim e = s.claim e := rfl
/-- The mirrors change the robot records alone. -/
theorem State.mirror_eq (s : State) : s.mirror = { s with robots := s.mirror.robots } := rfl

/-- A robot record after the mirrors are written. -/
theorem State.mirror_robot (s : State) (r : Robot) :
    s.mirror.robot r = { s.robot r with held := s.heldBy r, waiting := s.waitOf r } := by
  simp [State.mirror, State.robot]

/-- A claim record write changes the elements and the robot records alone. -/
theorem State.setClaim_eq (e : Elem) (c : ClaimRecord) (s : State) :
    s.setClaim e c = { s with elements := (s.setClaim e c).elements, robots := (s.setClaim e c).robots } := rfl

/-- The elements after a claim record write. -/
theorem State.setClaim_element (e e' : Elem) (c : ClaimRecord) (s : State) :
    (s.setClaim e c).element e' = if e' = e then { s.element e with claim := c } else s.element e' := by
  rw [State.setClaim, State.mirror_element, State.element_modifyElement]
  split <;> simp_all

/-- The claim table after a claim record write. -/
theorem State.setClaim_claim (e e' : Elem) (c : ClaimRecord) (s : State) :
    (s.setClaim e c).claim e' = if e' = e then c else s.claim e' := by
  simp only [State.claim, State.setClaim_element]
  split <;> simp

/-- The robot records after a claim record write: their own fields, and mirrors that agree with the table. -/
theorem State.setClaim_robot (e : Elem) (c : ClaimRecord) (s : State) (r : Robot) :
    (s.setClaim e c).robot r =
      { s.robot r with held := (s.setClaim e c).heldBy r, waiting := (s.setClaim e c).waitOf r } := by
  rw [State.setClaim, State.mirror_robot]
  rfl

/-- After a claim record write the mirrors agree with the table (R61). -/
theorem State.setClaim_mirrors (e : Elem) (c : ClaimRecord) (s : State) (r : Robot) :
    ((s.setClaim e c).robot r).held = (s.setClaim e c).heldBy r ∧
      ((s.setClaim e c).robot r).waiting = (s.setClaim e c).waitOf r := by
  rw [State.setClaim_robot]
  exact ⟨rfl, rfl⟩

/-- A claim record write changes no robot record beside its mirrors. -/
theorem State.setClaim_sameRosters (e : Elem) (c : ClaimRecord) (s : State) : s.SameRosters (s.setClaim e c) := by
  intro r
  rw [State.setClaim_robot]
  rfl

/-- The positions of a list of robots start from 1 (R61). -/
theorem positionIn_cons_self (r : Robot) (ws : List Robot) : positionIn r (r :: ws) = some 1 := by
  simp [positionIn]
/-- A robot has a position exactly where it stands in the list. -/
theorem positionIn_isSome (r : Robot) (ws : List Robot) : (positionIn r ws).isSome = true ↔ r ∈ ws := by
  induction ws with
  | nil => simp [positionIn]
  | cons w ws ih =>
    unfold positionIn
    by_cases h : w = r
    · simp [h]
    · simp [h, ih, Ne.symm h]

/-! ## The tally (R148) -/

/-- An operation changes accumulators, published scores and ports alone. -/
theorem State.addScore_eq (a : Alliance) (x : Int) (s : State) :
    s.addScore a x = { s with accumulators := (s.addScore a x).accumulators, published := (s.addScore a x).published,
                              ports := (s.addScore a x).ports } := by
  unfold State.addScore
  dsimp only
  split <;> rfl

/-- The accumulators after an operation. -/
theorem State.addScore_accumulator (a b : Alliance) (x : Int) (s : State) :
    (s.addScore a x).accumulators.get b =
      if b = a then clampInt (-99999) 99999 (s.accumulators.get a + x) else s.accumulators.get b := by
  have h : (s.addScore a x).accumulators =
      s.accumulators.set a.val (clampInt (-99999) 99999 (s.accumulators.get a + x)) a.isLt := by
    unfold State.addScore
    dsimp only
    split <;> rfl
  rw [h]
  by_cases hb : b = a
  · subst hb; simp
  · simp [hb, get_set_ne _ _ _ _ hb]

/-- The published scores after an operation. -/
theorem State.addScore_published (a b : Alliance) (x : Int) (s : State) :
    (s.addScore a x).published.get b =
      if b = a then publishedOf (clampInt (-99999) 99999 (s.accumulators.get a + x)) else s.published.get b := by
  have h : (s.addScore a x).published =
      s.published.set a.val (publishedOf (clampInt (-99999) 99999 (s.accumulators.get a + x))) a.isLt := by
    unfold State.addScore
    dsimp only
    split <;> rfl
  rw [h]
  by_cases hb : b = a
  · subst hb; simp
  · simp [hb, get_set_ne _ _ _ _ hb]

end Sys2Proof.Machine
end

