-- ==== Sys2Proof/Laws/Frames.lean ====
section
/-! SUPPORT. What the shared operations leave unchanged: one frame per operation of the claim arbiter, the engines, the
tally and the roster. -/

namespace Sys2Proof.Machine

/-! ## Three frames -/

/-- What an element keeps through every step of the arbiter and of its engine. -/
structure Element.SamePlan (x y : Element) : Prop where
  header : y.header = x.header
  auto : y.planAuto = x.planAuto
  drive : y.planDrive = x.planDrive
  endgame : y.planEndgame = x.planEndgame
  high0 : y.s0 = x.s0
  high1 : y.s1 = x.s1

/-- What the arbiter and the engines keep: everything but claims, timers, motions, units, counters, mirrors, scores and
notice queues. -/
structure State.Plays (s t : State) : Prop where
  same : s.SameMatch t
  rosters : s.SameRosters t
  ports : s.SamePorts t
  plans : ∀ e, (s.element e).SamePlan (t.element e)

/-- `Plays` with the scores kept as well. -/
structure State.Arbitrates (s t : State) : Prop where
  plays : s.Plays t
  scores : s.SameScores t

theorem Element.SamePlan.refl (x : Element) : x.SamePlan x := ⟨rfl, rfl, rfl, rfl, rfl, rfl⟩
theorem Element.SamePlan.trans {x y z : Element} (a : x.SamePlan y) (b : y.SamePlan z) : x.SamePlan z :=
  ⟨b.1.trans a.1, b.2.trans a.2, b.3.trans a.3, b.4.trans a.4, b.5.trans a.5, b.6.trans a.6⟩
theorem State.SameMatch.refl (s : State) : s.SameMatch s := ⟨rfl, rfl, rfl, rfl, rfl, rfl, rfl, rfl⟩
theorem State.SameMatch.trans {a b c : State} (h : a.SameMatch b) (k : b.SameMatch c) : a.SameMatch c :=
  ⟨k.1.trans h.1, k.2.trans h.2, k.3.trans h.3, k.4.trans h.4, k.5.trans h.5, k.6.trans h.6, k.7.trans h.7,
    k.8.trans h.8⟩
theorem State.SameScores.refl (s : State) : s.SameScores s := ⟨rfl, rfl⟩
theorem State.SameScores.trans {a b c : State} (h : a.SameScores b) (k : b.SameScores c) : a.SameScores c :=
  ⟨k.1.trans h.1, k.2.trans h.2⟩
theorem State.Plays.refl (s : State) : s.Plays s := ⟨.refl s, fun _ => rfl, fun _ => rfl, fun _ => .refl _⟩
theorem State.Plays.trans {a b c : State} (h : a.Plays b) (k : b.Plays c) : a.Plays c :=
  ⟨h.same.trans k.same, fun r => (k.rosters r).trans (h.rosters r), fun p => (k.ports p).trans (h.ports p),
    fun e => (h.plans e).trans (k.plans e)⟩
theorem State.Arbitrates.refl (s : State) : s.Arbitrates s := ⟨.refl s, .refl s⟩
theorem State.Arbitrates.trans {a b c : State} (h : a.Arbitrates b) (k : b.Arbitrates c) : a.Arbitrates c :=
  ⟨h.plays.trans k.plays, h.scores.trans k.scores⟩

/-- Two states with the same clock, plan and field stop states have the same active profiles. -/
theorem State.Plays.activeProfile {s t : State} (h : s.Plays t) (e : Elem) : t.activeProfile e = s.activeProfile e := by
  have p := h.plans e
  simp only [State.activeProfile, Element.activeProfile, h.same.clock]
  cases s.clock.currentLive with
  | none => rfl
  | some ph => cases ph <;> simp [Element.plan, p.auto, p.drive, p.endgame]

/-! ## Single writes -/

/-- An element write that keeps header, plan and sense inputs. -/
theorem State.modifyElement_arbitrates {e : Elem} {f : Element → Element} (s : State)
    (h : (s.element e).SamePlan (f (s.element e))) : s.Arbitrates (s.modifyElement e f) := by
  refine ⟨⟨⟨rfl, rfl, rfl, rfl, rfl, rfl, rfl, rfl⟩, fun _ => rfl, fun _ => rfl, fun e' => ?_⟩, ⟨rfl, rfl⟩⟩
  rw [State.element_modifyElement]
  split
  · rename_i h'; subst h'; exact h
  · exact .refl _

theorem State.hand_arbitrates (n : Notice) (s : State) : s.Arbitrates (s.hand n) :=
  ⟨⟨⟨rfl, rfl, rfl, rfl, rfl, rfl, rfl, rfl⟩, fun _ => rfl, State.hand_samePorts n s, fun _ => .refl _⟩, ⟨rfl, rfl⟩⟩
theorem State.raise_arbitrates (k : NoticeKind) (re : Option Reason) (r : Option Robot) (e : Option Elem)
    (v : Option Int) (s : State) : s.Arbitrates (s.raise k re r e v) := State.hand_arbitrates _ s
theorem State.raiseRobot_arbitrates (re : Reason) (r : Robot) (s : State) : s.Arbitrates (s.raiseRobot re r) :=
  State.hand_arbitrates _ s
theorem State.setClaim_arbitrates (e : Elem) (c : ClaimRecord) (s : State) : s.Arbitrates (s.setClaim e c) := by
  refine ⟨⟨⟨rfl, rfl, rfl, rfl, rfl, rfl, rfl, rfl⟩, State.setClaim_sameRosters e c s, fun _ => rfl, fun e' => ?_⟩,
    ⟨rfl, rfl⟩⟩
  rw [State.setClaim_element]
  split
  · rename_i h; subst h; exact ⟨rfl, rfl, rfl, rfl, rfl, rfl⟩
  · exact .refl _
theorem State.setClaimState_arbitrates (e : Elem) (c : ClaimState) (s : State) : s.Arbitrates (s.setClaimState e c) :=
  State.setClaim_arbitrates _ _ _
theorem State.setTimer_arbitrates (e : Elem) (t : ClaimTimer) (s : State) : s.Arbitrates (s.setTimer e t) :=
  State.modifyElement_arbitrates s ⟨rfl, rfl, rfl, rfl, rfl, rfl⟩
theorem Element.drivePulse_samePlan (f : PulseUnit → PulseUnit) (x : Element) : x.SamePlan (x.drivePulse f) := ⟨rfl, rfl, rfl, rfl, rfl, rfl⟩

/-! ## The claim arbiter (sections 4.4 to 4.6) -/

theorem State.raiseDrops_arbitrates (e : Elem) (re : Reason) (keep : Robot → Bool) (k : Nat) (ws : List Robot)
    (s : State) : s.Arbitrates (s.raiseDrops e re keep k ws) := by
  induction ws generalizing k s with
  | nil => exact .refl s
  | cons r rest ih =>
    unfold State.raiseDrops
    split
    · exact ih _ _
    · exact (State.raise_arbitrates _ _ _ _ _ s).trans (ih _ _)
theorem State.dropWaiters_arbitrates (e : Elem) (re : Reason) (keep : Robot → Bool) (s : State) :
    s.Arbitrates (s.dropWaiters e re keep) :=
  (State.setClaim_arbitrates _ _ s).trans (State.raiseDrops_arbitrates _ _ _ _ _ _)
theorem State.dropWaiter_arbitrates (e : Elem) (r : Robot) (re : Reason) (k : Nat) (s : State) :
    s.Arbitrates (s.dropWaiter e r re k) :=
  (State.setClaim_arbitrates _ _ s).trans (State.raise_arbitrates _ _ _ _ _ _)
theorem State.dropAll_arbitrates (e : Elem) (re : Reason) (s : State) : s.Arbitrates (s.dropAll e re) :=
  State.dropWaiters_arbitrates _ _ _ s
theorem State.enterBlocked_arbitrates (e : Elem) (c : BlockCause) (s : State) : s.Arbitrates (s.enterBlocked e c) :=
  (((State.dropAll_arbitrates e _ s).trans (State.setTimer_arbitrates e _ _)).trans
    (State.setClaimState_arbitrates e _ _)).trans (State.raise_arbitrates _ _ _ _ _ _)
theorem Element.claimEnded_samePlan (x : Element) : x.SamePlan x.claimEnded := by
  unfold Element.claimEnded
  split <;> exact ⟨rfl, rfl, rfl, rfl, rfl, rfl⟩
theorem Element.granted_samePlan (p : Profile) (x : Element) : x.SamePlan (x.granted p) := by
  unfold Element.granted
  split <;> exact ⟨rfl, rfl, rfl, rfl, rfl, rfl⟩
theorem State.removeHolder_arbitrates (e : Elem) (r : Robot) (c : Cause) (s : State) :
    s.Arbitrates (s.removeHolder e r c) :=
  ((State.setClaim_arbitrates e _ s).trans (State.raise_arbitrates _ _ _ _ _ _)).trans
    (State.modifyElement_arbitrates _ (Element.claimEnded_samePlan _))
theorem State.takeBlock_arbitrates (e : Elem) (c : BlockCause) (s : State) : s.Arbitrates (s.takeBlock e c) := by
  unfold State.takeBlock
  split
  · exact (State.removeHolder_arbitrates _ _ _ s).trans (State.enterBlocked_arbitrates _ _ _)
  · exact State.enterBlocked_arbitrates _ _ s
  · exact State.enterBlocked_arbitrates _ _ s
  · exact State.enterBlocked_arbitrates _ _ s
  · exact State.setClaimState_arbitrates _ _ s
theorem State.makeHolder_arbitrates (e : Elem) (r : Robot) (s : State) : s.Arbitrates (s.makeHolder e r) :=
  (State.setClaim_arbitrates _ _ s).trans (State.setTimer_arbitrates _ _ _)
theorem State.tellGrant_arbitrates (e : Elem) (s : State) : s.Arbitrates (s.tellGrant e) :=
  State.modifyElement_arbitrates s (Element.granted_samePlan _ _)
theorem State.grantWaiter_arbitrates (e : Elem) (r : Robot) (s : State) : s.Arbitrates (s.grantWaiter e r) :=
  ((State.makeHolder_arbitrates e r s).trans (State.raise_arbitrates _ _ _ _ _ _)).trans
    (State.tellGrant_arbitrates e _)
theorem State.settleReturn_arbitrates (e : Elem) (s : State) : s.Arbitrates (s.settleReturn e) := by
  unfold State.settleReturn
  split
  · split
    · exact (State.setClaimState_arbitrates _ _ s).trans (State.setTimer_arbitrates _ _ _)
    · exact State.grantWaiter_arbitrates _ _ s
  · exact ((State.dropAll_arbitrates _ _ s).trans (State.setClaimState_arbitrates _ _ _)).trans
      (State.setTimer_arbitrates _ _ _)
theorem State.finishReturn_arbitrates (e : Elem) (s : State) : s.Arbitrates (s.finishReturn e) := by
  unfold State.finishReturn
  split
  · exact State.settleReturn_arbitrates e s
  · exact .refl s

/-! ## The engines (chapter 5) -/

theorem Element.halted_samePlan (x : Element) : x.SamePlan x.halted := ⟨rfl, rfl, rfl, rfl, rfl, rfl⟩
theorem Element.arrive_samePlan (d : Direction) (x : Element) : x.SamePlan (x.arrive d) := ⟨rfl, rfl, rfl, rfl, rfl, rfl⟩
theorem Element.drive_samePlan (d : Direction) (q : Purpose) (x : Element) : x.SamePlan (x.drive d q) := ⟨rfl, rfl, rfl, rfl, rfl, rfl⟩
theorem Element.reverse_samePlan (d : Direction) (q : Purpose) (x : Element) : x.SamePlan (x.reverse d q) := ⟨rfl, rfl, rfl, rfl, rfl, rfl⟩
theorem Element.endTest_samePlan (x : Element) : x.SamePlan x.endTest := by
  unfold Element.endTest
  split <;> exact ⟨rfl, rfl, rfl, rfl, rfl, rfl⟩
theorem Element.fieldStop_samePlan (x : Element) : x.SamePlan x.fieldStop := by
  unfold Element.fieldStop
  split <;> exact ⟨rfl, rfl, rfl, rfl, rfl, rfl⟩
theorem Element.startFeed_samePlan (p : Profile) (x : Element) : x.SamePlan (x.startFeed p) := by
  unfold Element.startFeed
  dsimp only
  split <;> exact ⟨rfl, rfl, rfl, rfl, rfl, rfl⟩
theorem Element.stopFeed_samePlan (x : Element) : x.SamePlan x.stopFeed := by
  unfold Element.stopFeed
  split <;> exact ⟨rfl, rfl, rfl, rfl, rfl, rfl⟩
theorem Element.openFeed_samePlan (p : Profile) (x : Element) : x.SamePlan (x.openFeed p) := by
  unfold Element.openFeed
  split
  · exact x.stopFeed_samePlan.trans (Element.startFeed_samePlan _ _)
  · exact x.stopFeed_samePlan.trans (Element.startFeed_samePlan _ _)
  · split
    · exact ⟨rfl, rfl, rfl, rfl, rfl, rfl⟩
    · exact Element.startFeed_samePlan _ _

theorem State.jam_arbitrates (e : Elem) (s : State) : s.Arbitrates (s.jam e) :=
  (State.modifyElement_arbitrates s (Element.halted_samePlan _)).trans (State.takeBlock_arbitrates _ _ _)
theorem State.startMotion_arbitrates (e : Elem) (d : Direction) (q : Purpose) (s : State) :
    s.Arbitrates (s.startMotion e d q) := by
  unfold State.startMotion
  dsimp only
  split
  · exact State.jam_arbitrates e s
  · split
    · exact State.modifyElement_arbitrates s (Element.arrive_samePlan _ _)
    · exact State.modifyElement_arbitrates s (Element.drive_samePlan _ _ _)
theorem State.beginReturn_arbitrates (e : Elem) (s : State) : s.Arbitrates (s.beginReturn e) := by
  unfold State.beginReturn
  split
  all_goals first
    | exact State.startMotion_arbitrates _ _ _ s
    | exact State.modifyElement_arbitrates s ⟨rfl, rfl, rfl, rfl, rfl, rfl⟩
theorem State.enterReturning_arbitrates (e : Elem) (n : ClaimTimer) (s : State) : s.Arbitrates (s.enterReturning e n) := by
  unfold State.enterReturning
  dsimp only
  split
  · exact ((State.setClaimState_arbitrates _ _ s).trans (State.setTimer_arbitrates _ _ _)).trans
      (State.beginReturn_arbitrates _ _)
  all_goals exact (State.setClaimState_arbitrates _ _ s).trans (State.setTimer_arbitrates _ _ _)
theorem State.leaveHolder_arbitrates (e : Elem) (r : Robot) (c : Cause) (s : State) :
    s.Arbitrates (s.leaveHolder e r c) :=
  (State.removeHolder_arbitrates e r c s).trans (State.enterReturning_arbitrates _ _ _)
theorem State.endClaim_arbitrates (e : Elem) (c : Cause) (s : State) : s.Arbitrates (s.endClaim e c) := by
  unfold State.endClaim
  split
  · exact (State.leaveHolder_arbitrates _ _ _ s).trans (State.finishReturn_arbitrates _ _)
  all_goals exact .refl s
theorem State.unseat_arbitrates (r : Robot) (c : Cause) (s before : State) : s.Arbitrates (s.unseat r c before) := by
  unfold State.unseat
  split
  · exact State.leaveHolder_arbitrates _ _ _ s
  · split
    · exact State.dropWaiter_arbitrates _ _ _ _ s
    · exact .refl s
theorem State.removeRobot_arbitrates (r : Robot) (c : Cause) (s : State) : s.Arbitrates (s.removeRobot r c) := by
  unfold State.removeRobot
  split
  · exact (State.unseat_arbitrates r c s s).trans (State.finishReturn_arbitrates _ _)
  · exact State.unseat_arbitrates r c s s
theorem State.startPendingFeed_arbitrates (e : Elem) (s : State) : s.Arbitrates (s.startPendingFeed e) := by
  unfold State.startPendingFeed
  split
  · exact State.modifyElement_arbitrates s (Element.startFeed_samePlan _ _)
  · exact State.modifyElement_arbitrates s ⟨rfl, rfl, rfl, rfl, rfl, rfl⟩
theorem State.feedAtBoundary_arbitrates (e : Elem) (s : State) : s.Arbitrates (s.feedAtBoundary e) := by
  unfold State.feedAtBoundary
  split
  · split
    · exact State.modifyElement_arbitrates s (Element.openFeed_samePlan _ _)
    · exact State.modifyElement_arbitrates s (Element.stopFeed_samePlan _)
  · exact .refl s
theorem State.takeArrival_arbitrates (e : Elem) (s : State) : s.Arbitrates (s.takeArrival e) := by
  unfold State.takeArrival
  split
  · exact (State.modifyElement_arbitrates s (Element.arrive_samePlan _ _)).trans (State.finishReturn_arbitrates _ _)
  · exact .refl s
theorem State.lightLamp_arbitrates (e : Elem) (s : State) : s.Arbitrates (s.lightLamp e) := by
  unfold State.lightLamp
  dsimp only
  split
  · exact State.modifyElement_arbitrates s ⟨rfl, rfl, rfl, rfl, rfl, rfl⟩
  · exact .refl s
theorem State.stopElement_arbitrates (e : Elem) (s : State) : s.Arbitrates (s.stopElement e) := by
  have h := State.modifyElement_arbitrates (e := e) s (Element.endTest_samePlan _)
  unfold State.stopElement
  dsimp only
  split
  · exact h
  · exact (h.trans (State.modifyElement_arbitrates _ (Element.fieldStop_samePlan _))).trans
      (State.takeBlock_arbitrates _ _ _)
theorem State.brakeEnd_arbitrates (e : Elem) (s : State) : s.Arbitrates (s.brakeEnd e) := by
  unfold State.brakeEnd
  split
  · exact (State.startMotion_arbitrates _ _ _ s).trans (State.finishReturn_arbitrates _ _)
  all_goals exact .refl s
theorem State.shotExpiry_arbitrates (e : Elem) (s : State) : s.Arbitrates (s.shotExpiry e) := by
  have h := State.modifyElement_arbitrates (e := e) (f := fun x => { x with pulse := x.pulse.shotEnd, test := none }) s
    ⟨rfl, rfl, rfl, rfl, rfl, rfl⟩
  unfold State.shotExpiry
  dsimp only
  split
  · exact h
  · split
    · split
      · exact h.trans (State.jam_arbitrates _ _)
      · exact h
    · split
      · exact (h.trans (State.modifyElement_arbitrates _ ⟨rfl, rfl, rfl, rfl, rfl, rfl⟩)).trans (State.endClaim_arbitrates _ _ _)
      · exact h
    all_goals exact h
theorem State.waveChange_arbitrates (e : Elem) (s : State) : s.Arbitrates (s.waveChange e) :=
  State.modifyElement_arbitrates s ⟨rfl, rfl, rfl, rfl, rfl, rfl⟩
theorem State.strobeExpiry_arbitrates (e : Elem) (s : State) : s.Arbitrates (s.strobeExpiry e) := by
  have h := State.modifyElement_arbitrates (e := e) (f := fun x => { x with pulse := x.pulse.strobeFire }) s ⟨rfl, rfl, rfl, rfl, rfl, rfl⟩
  unfold State.strobeExpiry
  dsimp only
  split
  · exact h.trans (State.brakeEnd_arbitrates _ _)
  · exact h
theorem State.timerExpiry_arbitrates (e : Elem) (s : State) : s.Arbitrates (s.timerExpiry e) := by
  have h := State.setTimer_arbitrates e .stopped s
  unfold State.timerExpiry
  dsimp only
  split
  · exact h.trans (State.endClaim_arbitrates _ _ _)
  · exact h.trans (State.finishReturn_arbitrates _ _)
  all_goals exact h
theorem State.takeReturnEnd_arbitrates (e : Elem) (s : State) : s.Arbitrates (s.takeReturnEnd e) := by
  unfold State.takeReturnEnd
  dsimp only
  split
  · exact State.takeArrival_arbitrates e s
  · split
    · exact State.timerExpiry_arbitrates e s
    · exact State.settleReturn_arbitrates e s
theorem State.homeGate_arbitrates (e : Elem) (s : State) : s.Arbitrates (s.homeGate e) := by
  unfold State.homeGate
  dsimp only
  repeat' split
  all_goals first
    | exact State.startMotion_arbitrates _ _ _ s
    | exact .refl s

/-! ## Credits (R106, R109, R149) -/

theorem State.addScore_plays (a : Alliance) (x : Int) (s : State) : s.Plays (s.addScore a x) := by
  unfold State.addScore
  dsimp only
  split
  · exact ⟨⟨rfl, rfl, rfl, rfl, rfl, rfl, rfl, rfl⟩, fun _ => rfl, fun _ => rfl, fun _ => .refl _⟩
  · exact ⟨⟨rfl, rfl, rfl, rfl, rfl, rfl, rfl, rfl⟩, fun _ => rfl, State.hand_samePorts _ _, fun _ => .refl _⟩
theorem State.credit_plays (a : Alliance) (w : Nat) (s : State) : s.Plays (s.credit a w) := by
  unfold State.credit
  split
  · exact State.addScore_plays _ _ s
  · exact .refl s
theorem State.creditPiece_plays (e : Elem) (s : State) : s.Plays (s.creditPiece e) := by
  unfold State.creditPiece
  dsimp only
  repeat' split
  all_goals first
    | exact State.credit_plays _ _ s
    | exact (State.modifyElement_arbitrates s ⟨rfl, rfl, rfl, rfl, rfl, rfl⟩).plays
    | exact .refl s
theorem State.takePiece_plays (e : Elem) (s : State) : s.Plays (s.takePiece e) := by
  have h := (State.modifyElement_arbitrates (e := e) (f := fun x => { x with pieces := countUp x.pieces }) s
    ⟨rfl, rfl, rfl, rfl, rfl, rfl⟩).plays
  unfold State.takePiece
  split
  · exact h
  · exact (h.trans (State.creditPiece_plays _ _)).trans (State.lightLamp_arbitrates _ _).plays
  all_goals exact .refl s
theorem State.creditInterval_plays (e : Elem) (s : State) : s.Plays (s.creditInterval e) := by
  unfold State.creditInterval
  split
  · split
    · exact State.credit_plays _ _ s
    · exact .refl s
  · exact .refl s
theorem State.rateExpiry_plays (e : Elem) (s : State) : s.Plays (s.rateExpiry e) :=
  (State.modifyElement_arbitrates s ⟨rfl, rfl, rfl, rfl, rfl, rfl⟩).plays.trans (State.creditInterval_plays _ _)
theorem State.takePulse_plays (e : Elem) (s : State) : s.Plays (s.takePulse e) := by
  unfold State.takePulse
  dsimp only
  repeat' split
  all_goals first
    | exact (State.shotExpiry_arbitrates _ _).plays
    | exact State.rateExpiry_plays _ _
    | exact (State.waveChange_arbitrates _ _).plays
    | exact (State.strobeExpiry_arbitrates _ _).plays
    | exact .refl s

/-! ## Credits are made while a live phase runs alone (R149, R156) -/

/-- Outside the live phases a credit changes nothing. -/
theorem State.credit_of_not_live {s : State} (h : s.clock.state.isLive = false) (a : Alliance) (w : Nat) :
    s.credit a w = s := by simp [State.credit, h]

/-! ## Frames of the roster and of frames (chapter 3) -/

/-- Removals and notices of one robot after another keep what the arbiter keeps. -/
theorem State.forEach_arbitrates {ι : Type} {xs : List ι} {act : ι → State → State}
    (h : ∀ i (s : State), s.Arbitrates (act i s)) (s : State) : s.Arbitrates (s.forEach xs act) :=
  State.forEach_rel State.Arbitrates .refl .trans h s
theorem State.forEach_plays {ι : Type} {xs : List ι} {act : ι → State → State}
    (h : ∀ i (s : State), s.Plays (act i s)) (s : State) : s.Plays (s.forEach xs act) :=
  State.forEach_rel State.Plays .refl .trans h s
theorem State.announceEnables_arbitrates (s before : State) : s.Arbitrates (s.announceEnables before) := by
  refine State.forEach_arbitrates (fun r s => ?_) s
  split
  · exact State.raiseRobot_arbitrates _ _ s
  · exact .refl s

/-- A boundary's work in the arbiter keeps what the arbiter keeps, but for the last-holder alliances and states. -/
theorem State.claimAtStop_arbitrates (e : Elem) (s : State) : s.Arbitrates (s.claimAtStop e) := by
  unfold State.claimAtStop
  split
  · exact .refl s
  · exact .refl s
  · exact ((State.leaveHolder_arbitrates _ _ _ s).trans (State.dropAll_arbitrates _ _ _)).trans
      (State.finishReturn_arbitrates _ _)
  · exact State.dropAll_arbitrates _ _ s
  · exact State.setClaimState_arbitrates _ _ s
theorem State.claimAtLive_arbitrates (e : Elem) (s : State) : s.Arbitrates (s.claimAtLive e) := by
  have h := State.setClaim_arbitrates e { s.claim e with lastAlliance := none } s
  refine h.trans ?_
  unfold State.claimAtLive
  dsimp only
  split
  · exact .refl _
  · split
    · exact (State.setTimer_arbitrates _ _ _).trans (State.dropWaiters_arbitrates _ _ _ _)
    · exact ((State.leaveHolder_arbitrates _ _ _ _).trans (State.dropWaiters_arbitrates _ _ _ _)).trans
        (State.finishReturn_arbitrates _ _)
  · exact State.dropWaiters_arbitrates _ _ _ _
  all_goals exact State.setClaimState_arbitrates _ _ _
theorem State.claimsAtBoundary_arbitrates (s : State) : s.Arbitrates s.claimsAtBoundary := by
  unfold State.claimsAtBoundary
  split
  · exact State.forEach_arbitrates State.claimAtLive_arbitrates s
  · exact State.forEach_arbitrates State.claimAtStop_arbitrates s
/-- Roster and arbiter at a boundary, but for the order of their notices. -/
theorem State.rosterAndArbiter_eq (s before : State) : s.rosterAndArbiter before =
    { (s.announceEnables before).claimsAtBoundary with
        ports := if Config.arbiterFirst s.boundaries then (s.claimsAtBoundary.announceEnables before).ports
                 else (s.announceEnables before).claimsAtBoundary.ports
        boundaries := s.boundaries + 1 } := rfl

/-- What roster and arbiter keep at a boundary: everything that the arbiter keeps, but for the model's counter. -/
theorem State.rosterAndArbiter_plays (s before : State) :
    { s with boundaries := s.boundaries + 1 }.Arbitrates (s.rosterAndArbiter before) := by
  have a := (State.announceEnables_arbitrates s before).trans (State.claimsAtBoundary_arbitrates _)
  have b := (State.claimsAtBoundary_arbitrates s).trans (State.announceEnables_arbitrates _ before)
  rw [State.rosterAndArbiter_eq]
  generalize (s.announceEnables before).claimsAtBoundary = x at a
  generalize s.claimsAtBoundary.announceEnables before = y at b
  refine ⟨⟨⟨a.plays.same.clock, a.plays.same.timing, a.plays.same.stage, a.plays.same.stops, a.plays.same.rst, rfl,
    a.plays.same.pending, a.plays.same.clocks⟩, a.plays.rosters, fun q => ?_, a.plays.plans⟩, ⟨a.scores.1, a.scores.2⟩⟩
  cases Config.arbiterFirst s.boundaries
  · exact a.plays.ports q
  · exact b.plays.ports q

end Sys2Proof.Machine
end

