-- ==== Sys2Proof/Laws/Claims.lean ====
section
/-! SUPPORT. Locality: each operation on one element leaves every other element as it is; and what the claim arbiter's
operations do to the element they act on. -/

namespace Sys2Proof.Machine

/-! ## Locality -/

theorem State.SameElementsBut.refl (e : Elem) (s : State) : s.SameElementsBut e s := fun _ _ => rfl
theorem State.SameElementsBut.trans {e : Elem} {a b c : State} (h : a.SameElementsBut e b) (k : b.SameElementsBut e c) :
    a.SameElementsBut e c := fun e' n => (k e' n).trans (h e' n)

theorem State.modifyElement_local (e : Elem) (f : Element → Element) (s : State) :
    s.SameElementsBut e (s.modifyElement e f) := fun _ n => State.element_modifyElement_ne _ _ _ _ n
theorem State.hand_local (e : Elem) (n : Notice) (s : State) : s.SameElementsBut e (s.hand n) := fun _ _ => rfl
theorem State.raise_local (e : Elem) (k : NoticeKind) (re : Option Reason) (r : Option Robot) (o : Option Elem)
    (v : Option Int) (s : State) : s.SameElementsBut e (s.raise k re r o v) := fun _ _ => rfl
theorem State.setClaim_local (e : Elem) (c : ClaimRecord) (s : State) : s.SameElementsBut e (s.setClaim e c) :=
  fun e' n => by simp [State.setClaim_element, n]
theorem State.setClaimState_local (e : Elem) (c : ClaimState) (s : State) : s.SameElementsBut e (s.setClaimState e c) :=
  State.setClaim_local _ _ _
theorem State.setTimer_local (e : Elem) (t : ClaimTimer) (s : State) : s.SameElementsBut e (s.setTimer e t) :=
  State.modifyElement_local _ _ _

/-- Dropping raises notices alone. -/
theorem State.raiseDrops_eq (e : Elem) (re : Reason) (keep : Robot → Bool) (k : Nat) (ws : List Robot) (s : State) :
    s.raiseDrops e re keep k ws = { s with ports := (s.raiseDrops e re keep k ws).ports } := by
  induction ws generalizing k s with
  | nil => rfl
  | cons r rest ih =>
    unfold State.raiseDrops
    rw [ih]
    split <;> rfl

/-- The elements after waiters are dropped (R72). -/
theorem State.dropWaiters_element (e e' : Elem) (re : Reason) (keep : Robot → Bool) (s : State) :
    (s.dropWaiters e re keep).element e' =
      if e' = e then { s.element e with claim := { s.claim e with waiters := (s.claim e).waiters.filter keep } }
      else s.element e' := by
  unfold State.dropWaiters
  dsimp only
  rw [State.raiseDrops_eq]
  exact State.setClaim_element _ _ _ _

theorem State.dropWaiters_local (e : Elem) (re : Reason) (keep : Robot → Bool) (s : State) :
    s.SameElementsBut e (s.dropWaiters e re keep) := fun e' n => by simp [State.dropWaiters_element, n]
/-- The elements after one waiter is dropped (R72). -/
theorem State.dropWaiter_element (e e' : Elem) (r : Robot) (re : Reason) (k : Nat) (s : State) :
    (s.dropWaiter e r re k).element e' =
      if e' = e then
        { s.element e with claim := { s.claim e with waiters := (s.claim e).waiters.filter fun w => w ≠ r } }
      else s.element e' := State.setClaim_element _ _ _ _
theorem State.dropWaiter_local (e : Elem) (r : Robot) (re : Reason) (k : Nat) (s : State) :
    s.SameElementsBut e (s.dropWaiter e r re k) := fun e' n => by simp [State.dropWaiter_element, n]
theorem State.dropAll_local (e : Elem) (re : Reason) (s : State) : s.SameElementsBut e (s.dropAll e re) :=
  State.dropWaiters_local _ _ _ _
theorem State.enterBlocked_local (e : Elem) (c : BlockCause) (s : State) : s.SameElementsBut e (s.enterBlocked e c) :=
  (((State.dropAll_local e _ s).trans (State.setTimer_local e _ _)).trans (State.setClaimState_local e _ _)).trans
    (State.raise_local _ _ _ _ _ _ _)
theorem State.removeHolder_local (e : Elem) (r : Robot) (c : Cause) (s : State) :
    s.SameElementsBut e (s.removeHolder e r c) :=
  ((State.setClaim_local e _ s).trans (State.raise_local _ _ _ _ _ _ _)).trans (State.modifyElement_local _ _ _)
theorem State.takeBlock_local (e : Elem) (c : BlockCause) (s : State) : s.SameElementsBut e (s.takeBlock e c) := by
  unfold State.takeBlock
  split
  · exact (State.removeHolder_local _ _ _ s).trans (State.enterBlocked_local _ _ _)
  · exact State.enterBlocked_local _ _ s
  · exact State.enterBlocked_local _ _ s
  · exact State.enterBlocked_local _ _ s
  · exact State.setClaimState_local _ _ s
theorem State.makeHolder_local (e : Elem) (r : Robot) (s : State) : s.SameElementsBut e (s.makeHolder e r) :=
  (State.setClaim_local _ _ s).trans (State.setTimer_local _ _ _)
theorem State.tellGrant_local (e : Elem) (s : State) : s.SameElementsBut e (s.tellGrant e) :=
  State.modifyElement_local _ _ _
theorem State.grantWaiter_local (e : Elem) (r : Robot) (s : State) : s.SameElementsBut e (s.grantWaiter e r) :=
  ((State.makeHolder_local e r s).trans (State.raise_local _ _ _ _ _ _ _)).trans (State.tellGrant_local e _)
theorem State.settleReturn_local (e : Elem) (s : State) : s.SameElementsBut e (s.settleReturn e) := by
  unfold State.settleReturn
  split
  · split
    · exact (State.setClaimState_local _ _ s).trans (State.setTimer_local _ _ _)
    · exact State.grantWaiter_local _ _ s
  · exact ((State.dropAll_local _ _ s).trans (State.setClaimState_local _ _ _)).trans (State.setTimer_local _ _ _)
theorem State.finishReturn_local (e : Elem) (s : State) : s.SameElementsBut e (s.finishReturn e) := by
  unfold State.finishReturn
  split
  · exact State.settleReturn_local e s
  · exact .refl e s
theorem State.jam_local (e : Elem) (s : State) : s.SameElementsBut e (s.jam e) :=
  (State.modifyElement_local _ _ s).trans (State.takeBlock_local _ _ _)
theorem State.startMotion_local (e : Elem) (d : Direction) (q : Purpose) (s : State) :
    s.SameElementsBut e (s.startMotion e d q) := by
  unfold State.startMotion
  dsimp only
  split
  · exact State.jam_local e s
  · split <;> exact State.modifyElement_local _ _ s
theorem State.beginReturn_local (e : Elem) (s : State) : s.SameElementsBut e (s.beginReturn e) := by
  unfold State.beginReturn
  split
  all_goals first
    | exact State.startMotion_local _ _ _ s
    | exact State.modifyElement_local _ _ s
theorem State.enterReturning_local (e : Elem) (n : ClaimTimer) (s : State) : s.SameElementsBut e (s.enterReturning e n) := by
  unfold State.enterReturning
  dsimp only
  split
  · exact ((State.setClaimState_local _ _ s).trans (State.setTimer_local _ _ _)).trans (State.beginReturn_local _ _)
  all_goals exact (State.setClaimState_local _ _ s).trans (State.setTimer_local _ _ _)
/-- The cooldown loaded by the ending of a claim: full, lowered by the tick that the ending preceded, or none (R131, R133). -/
theorem ClaimTimer.cool_cases (late : Bool) (n : Nat) :
    ClaimTimer.cool late n = if n = 0 then .stopped else ⟨true, if late = true then n - 1 else n⟩ := by
  unfold ClaimTimer.cool ClaimTimer.load ClaimTimer.tick
  cases late <;> by_cases h : n = 0 <;> simp [h, ClaimTimer.stopped]
theorem State.leaveHolder_local (e : Elem) (r : Robot) (c : Cause) (s : State) :
    s.SameElementsBut e (s.leaveHolder e r c) :=
  (State.removeHolder_local e r c s).trans (State.enterReturning_local _ _ _)
theorem State.endClaim_local (e : Elem) (c : Cause) (s : State) : s.SameElementsBut e (s.endClaim e c) := by
  unfold State.endClaim
  split
  · exact (State.leaveHolder_local _ _ _ s).trans (State.finishReturn_local _ _)
  all_goals exact .refl e s
theorem State.stopElement_local (e : Elem) (s : State) : s.SameElementsBut e (s.stopElement e) := by
  have h := State.modifyElement_local e Element.endTest s
  unfold State.stopElement
  dsimp only
  split
  · exact h
  · exact (h.trans (State.modifyElement_local _ _ _)).trans (State.takeBlock_local _ _ _)
theorem State.homeGate_local (e : Elem) (s : State) : s.SameElementsBut e (s.homeGate e) := by
  unfold State.homeGate
  dsimp only
  repeat' split
  all_goals first
    | exact State.startMotion_local _ _ _ s
    | exact .refl e s
theorem State.feedAtBoundary_local (e : Elem) (s : State) : s.SameElementsBut e (s.feedAtBoundary e) := by
  unfold State.feedAtBoundary
  repeat' split
  all_goals first
    | exact State.modifyElement_local _ _ s
    | exact .refl e s
theorem State.claimAtStop_local (e : Elem) (s : State) : s.SameElementsBut e (s.claimAtStop e) := by
  unfold State.claimAtStop
  split
  · exact .refl e s
  · exact .refl e s
  · exact ((State.leaveHolder_local _ _ _ s).trans (State.dropAll_local _ _ _)).trans (State.finishReturn_local _ _)
  · exact State.dropAll_local _ _ s
  · exact State.setClaimState_local _ _ s
theorem State.claimAtLive_local (e : Elem) (s : State) : s.SameElementsBut e (s.claimAtLive e) := by
  refine (State.setClaim_local e { s.claim e with lastAlliance := none } s).trans ?_
  unfold State.claimAtLive
  dsimp only
  split
  · exact .refl e _
  · split
    · exact (State.setTimer_local _ _ _).trans (State.dropWaiters_local _ _ _ _)
    · exact ((State.leaveHolder_local _ _ _ _).trans (State.dropWaiters_local _ _ _ _)).trans
        (State.finishReturn_local _ _)
  · exact State.dropWaiters_local _ _ _ _
  all_goals exact State.setClaimState_local _ _ _

theorem State.takeArrival_local (e : Elem) (s : State) : s.SameElementsBut e (s.takeArrival e) := by
  unfold State.takeArrival
  split
  · exact (State.modifyElement_local _ _ s).trans (State.finishReturn_local _ _)
  · exact .refl e s
theorem State.timerExpiry_local (e : Elem) (s : State) : s.SameElementsBut e (s.timerExpiry e) := by
  have h := State.setTimer_local e .stopped s
  unfold State.timerExpiry
  dsimp only
  split
  · exact h.trans (State.endClaim_local _ _ _)
  · exact h.trans (State.finishReturn_local _ _)
  all_goals exact h
theorem State.takeReturnEnd_local (e : Elem) (s : State) : s.SameElementsBut e (s.takeReturnEnd e) := by
  unfold State.takeReturnEnd
  dsimp only
  split
  · exact State.takeArrival_local e s
  · split
    · exact State.timerExpiry_local e s
    · exact State.settleReturn_local e s

/-- A run of local actions over distinct elements: each element is as its own action left it, on a state that agrees with
the first one on that element. `R` is what the actions keep of the rest of the state. -/
theorem State.forEach_local {act : Elem → State → State} (R : State → State → Prop) (refl : ∀ s, R s s)
    (trans : ∀ {a b c}, R a b → R b c → R a c) (keep : ∀ e s, R s (act e s))
    (loc : ∀ e s, State.SameElementsBut e s (act e s)) {xs : List Elem} (distinct : xs.Nodup) (s : State) (e : Elem) :
    (e ∈ xs → ∃ u, R s u ∧ u.element e = s.element e ∧ R (act e u) (s.forEach xs act) ∧
      (s.forEach xs act).element e = (act e u).element e) ∧
    (e ∉ xs → (s.forEach xs act).element e = s.element e) := by
  induction xs generalizing s with
  | nil => exact ⟨fun h => absurd h List.not_mem_nil, fun _ => rfl⟩
  | cons i xs ih =>
    obtain ⟨hi, hd⟩ := List.nodup_cons.mp distinct
    have ih' := ih hd (act i s)
    rw [State.forEach_cons]
    constructor
    · intro h
      by_cases hei : e = i
      · subst hei
        refine ⟨s, refl s, rfl, ?_, ih'.2 hi⟩
        exact State.forEach_rel R refl trans keep _
      · obtain ⟨u, hu, he, hr, hx⟩ := ih'.1 ((List.mem_cons.mp h).resolve_left hei)
        exact ⟨u, trans (keep i s) hu, he.trans (loc i s e hei), hr, hx⟩
    · intro h
      rw [List.mem_cons, not_or] at h
      rw [ih'.2 h.2, loc i s e h.1]

/-- E0 to E23 are distinct. -/
theorem allElems_nodup : allElems.Nodup := List.nodup_finRange 24

/-! ## The element acted on -/

/-- An element that enters BLOCKED (R80). -/
theorem State.enterBlocked_element (e : Elem) (c : BlockCause) (s : State) :
    (s.enterBlocked e c).element e =
      { s.element e with claim := ⟨.blocked c, (s.claim e).lastAlliance, []⟩, timer := .stopped } := by
  simp only [State.enterBlocked, State.raise, State.hand, State.setClaimState]
  change ((State.setClaim e _ _).element e) = _
  simp [State.setClaim_element, State.setTimer, State.claim, State.dropAll, State.dropWaiters_element]

/-- An element whose holder is removed, its engine told (R68, R101, R108). -/
theorem State.removeHolder_element (e : Elem) (r : Robot) (c : Cause) (s : State) :
    (s.removeHolder e r c).element e =
      Element.claimEnded
        { s.element e with claim := { s.claim e with state := .returning, lastAlliance := (s.robot r).alliance } } := by
  simp only [State.removeHolder, State.element_modifyElement_self]
  change Element.claimEnded ((State.setClaim e _ s).element e) = _
  simp [State.setClaim_element]

theorem Element.claimEnded_claim (x : Element) : x.claimEnded.claim = x.claim := by
  unfold Element.claimEnded
  split <;> rfl
theorem Element.granted_claim (p : Profile) (x : Element) : (x.granted p).claim = x.claim := by
  unfold Element.granted
  split <;> rfl

/-- A FIELD or JAM cause leaves the element BLOCKED with that cause, whatever it found (R79). -/
theorem State.takeBlock_state (e : Elem) (c : BlockCause) (s : State) :
    ((s.takeBlock e c).claim e).state = .blocked c := by
  unfold State.takeBlock
  split
  all_goals simp [State.claim, State.enterBlocked_element, State.setClaimState, State.setClaim_element]

/-- A jam leaves the element BLOCKED with cause JAM (R95). -/
theorem State.jam_state (e : Elem) (s : State) : ((s.jam e).claim e).state = .blocked .jam := State.takeBlock_state _ _ _

/-- The claim record after a robot becomes holder (R63, R77). -/
theorem State.makeHolder_element (e : Elem) (r : Robot) (s : State) :
    (s.makeHolder e r).element e =
      { s.element e with
          claim := { s.claim e with state := .held r, waiters := (s.claim e).waiters.filter (· ≠ r) }
          timer := .load ((s.activeProfile e).holdS * 1000) } := by
  simp [State.makeHolder, State.setTimer, State.setClaim_element]

/-- The robot that the key chooses stands in the wait list (R76). -/
theorem State.bestOf_mem (s : State) (e : Elem) (k : Nat) (best : Robot × Nat) (ws : List Robot) :
    s.bestOf e k best ws = best.1 ∨ s.bestOf e k best ws ∈ ws := by
  induction ws generalizing k best with
  | nil => exact .inl rfl
  | cons r rest ih =>
    unfold State.bestOf
    split
    · rcases ih (k + 1) (r, k) with h | h
      · exact .inr (h ▸ .head _)
      · exact .inr (.tail _ h)
    · rcases ih (k + 1) best with h | h
      · exact .inl h
      · exact .inr (.tail _ h)
theorem State.nextHolder_mem {s : State} {e : Elem} {r : Robot} (h : s.nextHolder e = some r) :
    r ∈ (s.claim e).waiters := by
  unfold State.nextHolder at h
  split at h
  · exact absurd h (by simp)
  · rename_i w rest hw
    rw [hw, ← Option.some.inj h]
    rcases s.bestOf_mem e 2 (w, 1) rest with h' | h'
    · exact h' ▸ .head _
    · exact .tail _ h'

end Sys2Proof.Machine
end

