-- ==== Sys2Proof/Laws/Requests.lean ====
section
/-! SUPPORT. What a request, an event and an answer can do: one inversion lemma each, which statements about a command cite
in place of unfolding it. -/

namespace Sys2Proof.Machine

/-! ## Events -/

/-- An event that is due acts. -/
theorem State.event_due {s : State} {due : State → Bool} {act : State → State} (hr : s.rst = false)
    (hd : due s = true) : s.event due act = act s := by simp [State.event, hr, hd]

/-- An event that is not due, or comes while RST is active, changes nothing. -/
theorem State.event_idle {s : State} {due : State → Bool} {act : State → State}
    (h : s.rst = true ∨ due s = false) : s.event due act = s := by
  rcases h with h | h <;> simp [State.event, h]

/-- An event either acts, being due with RST inactive, or changes nothing. -/
theorem State.event_cases (s : State) (due : State → Bool) (act : State → State) :
    (s.rst = false ∧ due s = true ∧ s.event due act = act s) ∨ s.event due act = s := by
  cases hr : s.rst <;> cases hd : due s <;> simp [State.event, hr, hd]

/-! ## Answers (R165, R172) -/

/-- The length of a filled answer. -/
theorem padded_length (n : Nat) (bytes : List Byte) : (padded n bytes).length = max n bytes.length := by
  simp [padded]
  omega

/-- An answer that names all its bytes is not filled. -/
theorem padded_full {n : Nat} {bytes : List Byte} (h : n ≤ bytes.length) : padded n bytes = bytes := by
  simp [padded, Nat.sub_eq_zero_of_le h]

/-- The answer of a request puts the receiver into ANSWER with the status byte and the filled answer bytes. -/
theorem State.reply_eq (p : Port) (n : Nat) (a : Answer) (s : State) :
    s.reply p n a = s.answered p (a.status.code :: padded n a.bytes) := rfl

theorem State.answered_samePortsBut (p q : Port) (bytes : List Byte) (s : State) (h : q ≠ p) :
    (s.answered p bytes).port q = s.port q := State.port_modifyPort_ne _ _ _ _ h
@[simp] theorem State.answered_port_self (p : Port) (bytes : List Byte) (s : State) :
    (s.answered p bytes).port p = { s.port p with frame := .answering bytes } :=
  State.port_modifyPort_self _ _ _
@[simp] theorem State.answered_element (p : Port) (bytes : List Byte) (s : State) (e : Elem) :
    (s.answered p bytes).element e = s.element e := rfl
@[simp] theorem State.answered_claim (p : Port) (bytes : List Byte) (s : State) (e : Elem) :
    (s.answered p bytes).claim e = s.claim e := rfl
@[simp] theorem State.answered_robot (p : Port) (bytes : List Byte) (s : State) (r : Robot) :
    (s.answered p bytes).robot r = s.robot r := rfl
@[simp] theorem State.answered_clock (p : Port) (bytes : List Byte) (s : State) :
    (s.answered p bytes).clock = s.clock := rfl
/-- An answer changes the ports alone. -/
theorem State.answered_eq (p : Port) (bytes : List Byte) (s : State) :
    s.answered p bytes = { s with ports := (s.answered p bytes).ports } := rfl

/-! ## Requests (R163, R164) -/

/-- A request that is heard and open to the port's role: its owner examines the settled state with the frame complete,
and its answer is fixed. -/
theorem State.request_open {s : State} {p : Port} {code : Byte} {body : State → State × Answer} {row : RequestRow}
    (hrow : requestRow code = some row) (hh : s.Hears p) (ho : row.openTo ((s.examined p).role p) = true) :
    s.request p code body =
      (body (s.examined p)).1.answered p ((body (s.examined p)).2.status.code ::
        padded row.answer (body (s.examined p)).2.bytes) := by
  obtain ⟨hr, hl⟩ := hh
  unfold State.request
  rw [hrow]
  simp only [hr, hl, Bool.not_true, Bool.or_self, Bool.false_eq_true, if_false]
  exact if_pos ho

/-- A request that is heard from a port whose role it is not open to is answered ROLE. -/
theorem State.request_role {s : State} {p : Port} {code : Byte} {body : State → State × Answer} {row : RequestRow}
    (hrow : requestRow code = some row) (hh : s.Hears p) (ho : row.openTo ((s.examined p).role p) = false) :
    s.request p code body = (s.examined p).answered p (0x81 :: padded row.answer []) := by
  obtain ⟨hr, hl⟩ := hh
  unfold State.request
  rw [hrow]
  simp only [hr, hl, Bool.not_true, Bool.or_self, Bool.false_eq_true, if_false]
  exact if_neg (by rw [show s.settled.frameComplete p = s.examined p from rfl, ho]; simp)

/-- A request on a port that takes no request in changes nothing. -/
theorem State.request_unheard {s : State} {p : Port} {code : Byte} {body : State → State × Answer} {row : RequestRow}
    (hrow : requestRow code = some row) (hh : ¬ s.Hears p) : s.request p code body = s := by
  unfold State.request
  rw [hrow]
  have : (s.rst || !s.listening p) = true := by
    cases hr : s.rst <;> cases hl : s.listening p <;> simp_all
  simp [this]

/-- The three things that a request can do. -/
theorem State.request_cases (s : State) (p : Port) (code : Byte) (body : State → State × Answer) {row : RequestRow}
    (hrow : requestRow code = some row) :
    s.request p code body = s ∨
    s.request p code body = (s.examined p).answered p (0x81 :: padded row.answer []) ∨
    s.request p code body =
      (body (s.examined p)).1.answered p ((body (s.examined p)).2.status.code ::
        padded row.answer (body (s.examined p)).2.bytes) := by
  by_cases hh : s.Hears p
  · cases ho : row.openTo ((s.examined p).role p)
    · exact .inr (.inl (State.request_role hrow hh ho))
    · exact .inr (.inr (State.request_open hrow hh ho))
  · exact .inl (State.request_unheard hrow hh)

/-! ## A complete frame (R52, R54) -/

/-- A frame on a port that is no bridge port changes nothing in the roster. -/
theorem State.frameComplete_of_not_bridge {s : State} {p : Port} (h : s.isBridge p = false) :
    s.frameComplete p = s := by simp [State.frameComplete, h]

/-- P0 is always the referee port (R161). -/
@[simp] theorem State.role_zero (s : State) : s.role 0 = .referee := rfl

/-- The role of a port depends on its strap alone. -/
theorem State.role_congr {s t : State} {p : Port} (h : (t.port p).strap = (s.port p).strap) : t.role p = s.role p := by
  simp [State.role, h]

end Sys2Proof.Machine
end

