-- ==== Sys2Proof/Laws/Settle.lean ====
section
/-! SUPPORT. What the events of a tick and a complete frame leave unchanged, and the state in which a request is examined. -/

namespace Sys2Proof.Machine

/-- What no event of a tick and no boundary touches: frame receivers, roles and masks of the ports, RST, the queue of
commands, the waiting serial clocks, the timing record and the headers. -/
structure State.Settles (s t : State) : Prop where
  frame : ∀ q, (t.port q).frame = (s.port q).frame
  strap : ∀ q, (t.port q).strap = (s.port q).strap
  subscription : ∀ q, (t.port q).subscription = (s.port q).subscription
  rst : t.rst = s.rst
  pending : t.pending = s.pending
  clocks : t.clocks = s.clocks
  timing : t.timing = s.timing
  headers : ∀ e, (t.element e).header = (s.element e).header

theorem State.Settles.refl (s : State) : s.Settles s :=
  ⟨fun _ => rfl, fun _ => rfl, fun _ => rfl, rfl, rfl, rfl, rfl, fun _ => rfl⟩
theorem State.Settles.trans {a b c : State} (h : a.Settles b) (k : b.Settles c) : a.Settles c :=
  ⟨fun q => (k.1 q).trans (h.1 q), fun q => (k.2 q).trans (h.2 q), fun q => (k.3 q).trans (h.3 q),
    k.4.trans h.4, k.5.trans h.5, k.6.trans h.6, k.7.trans h.7, fun e => (k.8 e).trans (h.8 e)⟩
theorem State.forEach_settles {ι : Type} {xs : List ι} {act : ι → State → State}
    (h : ∀ i (s : State), s.Settles (act i s)) (s : State) : s.Settles (s.forEach xs act) :=
  State.forEach_rel State.Settles .refl .trans h s
theorem State.takeEach_settles {ι : Type} {xs : List ι} {due : State → ι → Bool} {act : ι → State → State}
    (h : ∀ i (s : State), s.Settles (act i s)) (s : State) : s.Settles (s.takeEach xs due act) := by
  refine State.forEach_settles (fun i s => ?_) s
  split
  · exact h i s
  · exact .refl s

/-- A port record read from its other fields. -/
theorem State.Plays.settles {s t : State} (h : s.Plays t) : s.Settles t := by
  refine ⟨fun q => ?_, fun q => ?_, fun q => ?_, h.same.rst, h.same.pending, h.same.clocks, h.same.timing,
    fun e => (h.plans e).header⟩
  · have := congrArg PortRecord.frame (h.ports q); exact this
  · have := congrArg PortRecord.strap (h.ports q); exact this
  · have := congrArg PortRecord.subscription (h.ports q); exact this

/-- A rewriting of port records that keeps frame receiver, strap and mask. -/
theorem State.ports_settles {f : Port → PortRecord → PortRecord} (s : State)
    (h : ∀ p x, (f p x).frame = x.frame ∧ (f p x).strap = x.strap ∧ (f p x).subscription = x.subscription) : s.Settles { s with ports := rewriteAll f s.ports } := by
  refine ⟨fun q => ?_, fun q => ?_, fun q => ?_, rfl, rfl, rfl, rfl, fun _ => rfl⟩ <;>
    simp only [State.port, rewriteAll_get]
  exacts [(h _ _).1, (h _ _).2.1, (h _ _).2.2]

theorem State.modifyPort_settles {p : Port} {f : PortRecord → PortRecord} (s : State)
    (h : ∀ x, (f x).frame = x.frame ∧ (f x).strap = x.strap ∧ (f x).subscription = x.subscription) : s.Settles (s.modifyPort p f) := by
  refine ⟨fun q => ?_, fun q => ?_, fun q => ?_, rfl, rfl, rfl, rfl, fun _ => rfl⟩ <;>
    rw [State.port_modifyPort] <;> split
  all_goals first
    | rfl
    | (rename_i hq; subst hq; first
        | exact (h _).1
        | exact (h _).2.1
        | exact (h _).2.2)

/-! ## Roster and lines -/

theorem State.silenceIn_settles (order : List Robot) (p : Port) (s : State) : s.Settles (s.silenceIn order p) := by
  have h := State.modifyPort_settles (p := p) (f := fun x => { x with link := .stale, silenceDue := false }) s
    fun _ => ⟨rfl, rfl, rfl⟩
  have k : ∀ (r : Robot) (t : State), t.Settles ((t.raiseRobot .stale r).unseat r .stale s) := fun r t =>
    ((State.raiseRobot_arbitrates .stale r t).trans (State.unseat_arbitrates r .stale _ s)).plays.settles
  exact (h.trans (State.forEach_settles k _)).trans
    (State.forEach_settles (fun e s => (State.finishReturn_arbitrates e s).plays.settles) _)
theorem State.silenceExpiry_settles (p : Port) (s : State) : s.Settles (s.silenceExpiry p) :=
  State.silenceIn_settles _ p s
/-- The order of a silence expiry is slot order or the order by age (R48, R53, R72). -/
theorem State.silenceOrder_cases (p : Port) (s : State) :
    s.silenceOrder p = s.boundTo p ∨ s.silenceOrder p = s.agedOrder p := by
  unfold State.silenceOrder
  split
  · exact .inl rfl
  · split
    · exact .inr rfl
    · exact .inl rfl
theorem State.takeSilences_settles (s : State) : s.Settles s.takeSilences :=
  State.takeEach_settles State.silenceExpiry_settles s
theorem State.benchExpiry_settles (r : Robot) (s : State) : s.Settles (s.benchExpiry r) := by
  have h : s.Settles (s.modifyRobot r fun x => { x with standing := .clear }) :=
    ⟨fun _ => rfl, fun _ => rfl, fun _ => rfl, rfl, rfl, rfl, rfl, fun _ => rfl⟩
  exact h.trans (State.raiseRobot_arbitrates _ _ _).plays.settles
theorem State.assertStop_settles (g : Group) (s : State) : s.Settles (s.assertStop g) := by
  have h : s.Settles (s.setStop g ⟨true, none⟩) :=
    ⟨fun _ => rfl, fun _ => rfl, fun _ => rfl, rfl, rfl, rfl, rfl, fun _ => rfl⟩
  exact (h.trans (State.raise_arbitrates _ _ _ _ _ _).plays.settles).trans
    (State.forEach_arbitrates State.stopElement_arbitrates _).plays.settles
theorem State.releaseStop_settles (g : Group) (s : State) : s.Settles (s.releaseStop g) := by
  have h : s.Settles (s.setStop g ⟨false, none⟩) :=
    ⟨fun _ => rfl, fun _ => rfl, fun _ => rfl, rfl, rfl, rfl, rfl, fun _ => rfl⟩
  exact h.trans (State.raise_arbitrates _ _ _ _ _ _).plays.settles
theorem State.takeStop_settles (g : Group) (s : State) : s.Settles (s.takeStop g) := by
  unfold State.takeStop
  repeat' split
  · exact State.assertStop_settles g s
  · exact State.releaseStop_settles g s
  · exact .refl s
theorem State.acceptSense_settles (i : SenseId) (e : Elem) (s : State) : s.Settles (s.acceptSense e i) := by
  have h : s.Settles (s.modifyElement e fun x => x.setSense i ⟨!(x.sense i).high, none⟩) := by
    refine ⟨fun _ => rfl, fun _ => rfl, fun _ => rfl, rfl, rfl, rfl, rfl, fun e' => ?_⟩
    rw [State.element_modifyElement]
    split
    · rename_i h; subst h; cases i <;> rfl
    · rfl
  refine h.trans ?_
  unfold State.acceptSense
  dsimp only
  repeat' split
  all_goals first
    | exact (State.jam_arbitrates _ _).plays.settles
    | exact (State.takePiece_plays _ _).settles
    | exact (State.modifyElement_arbitrates _ ⟨rfl, rfl, rfl, rfl, rfl, rfl⟩).plays.settles
    | exact .refl _

/-! ## Boundaries -/

theorem State.transition_settles (re : Reason) (c : Clock) (s : State) : s.Settles (s.transition re c) := by
  have h : s.Settles (s.setClock c) :=
    ⟨fun _ => rfl, fun _ => rfl, fun _ => rfl, rfl, rfl, rfl, rfl, fun _ => rfl⟩
  exact h.trans (State.raise_arbitrates _ _ _ _ _ _).plays.settles
theorem Element.setPlan_header (x : Element) (ph : LivePhase) (p : Profile) : (x.setPlan ph p).header = x.header := by
  cases ph <;> rfl
theorem State.applyStage_settles (ph : LivePhase) (s : State) : s.Settles (s.applyStage ph) := by
  unfold State.applyStage
  split
  · have h : s.Settles (s.forEach s.stage.listed fun entry s => s.modifyElement entry.1 fun x => x.setPlan ph entry.2) := by
      refine State.forEach_settles (fun i s => ?_) s
      refine ⟨fun _ => rfl, fun _ => rfl, fun _ => rfl, rfl, rfl, rfl, rfl, fun e' => ?_⟩
      rw [State.element_modifyElement]
      split
      · rename_i h; subst h; exact Element.setPlan_header _ _ _
      · rfl
    refine (h.trans ?_).trans (State.raise_arbitrates _ _ _ _ _ _).plays.settles
    exact ⟨fun _ => rfl, fun _ => rfl, fun _ => rfl, rfl, rfl, rfl, rfl, fun _ => rfl⟩
  all_goals exact .refl s
theorem State.voidStage_settles (s : State) : s.Settles s.voidStage := by
  have h : s.Settles { s with stage := .reset } :=
    ⟨fun _ => rfl, fun _ => rfl, fun _ => rfl, rfl, rfl, rfl, rfl, fun _ => rfl⟩
  unfold State.voidStage
  split
  · exact .refl s
  all_goals exact h.trans (State.raise_arbitrates _ _ _ _ _ _).plays.settles
theorem State.stageAtBoundary_settles (s : State) : s.Settles s.stageAtBoundary := by
  unfold State.stageAtBoundary
  repeat' split
  · exact State.applyStage_settles _ s
  · exact State.voidStage_settles s
  · exact .refl s
theorem State.voidSnapshots_settles (e : Elem) (s : State) : s.Settles (s.voidSnapshots e) :=
  State.ports_settles s fun _ _ => ⟨rfl, rfl, rfl⟩
theorem State.voidChanged_settles (s before : State) : s.Settles (s.voidChanged before) := by
  refine State.forEach_settles (fun e s => ?_) s
  split
  · exact .refl s
  · exact State.voidSnapshots_settles e s
theorem State.reloadSilence_settles (s : State) : s.Settles s.reloadSilence := by
  refine State.ports_settles s fun p x => ?_
  split <;> exact ⟨rfl, rfl, rfl⟩
theorem State.rosterAndArbiter_settles (s before : State) : s.Settles (s.rosterAndArbiter before) := by
  have h : s.Settles { s with boundaries := s.boundaries + 1 } :=
    ⟨fun _ => rfl, fun _ => rfl, fun _ => rfl, rfl, rfl, rfl, rfl, fun _ => rfl⟩
  exact h.trans (State.rosterAndArbiter_plays s before).plays.settles
theorem State.boundary_settles (s before : State) : s.Settles (s.boundary before) := by
  have h := s.stageAtBoundary_settles.trans (State.voidChanged_settles _ before)
  unfold State.boundary
  dsimp only
  split
  · exact ((h.trans (State.reloadSilence_settles _)).trans (State.rosterAndArbiter_settles _ before)).trans
      (State.forEach_arbitrates State.feedAtBoundary_arbitrates _).plays.settles
  · exact (h.trans (State.rosterAndArbiter_settles _ before)).trans
      (State.forEach_arbitrates State.feedAtBoundary_arbitrates _).plays.settles
theorem State.enter_settles (re : Reason) (c : Clock) (s : State) : s.Settles (s.enter re c) :=
  (State.transition_settles re c s).trans (State.boundary_settles _ _)
theorem State.takePhase_settles (s : State) : s.Settles s.takePhase := by
  unfold State.takePhase
  repeat' split
  · unfold State.autoExpiry
    dsimp only
    split
    · exact s.takeSilences_settles.trans (State.enter_settles _ _ _)
    · exact State.enter_settles _ _ s
  · exact s.takeSilences_settles.trans (State.enter_settles _ _ _)
  · exact s.takeSilences_settles.trans (State.enter_settles _ _ _)
  · exact State.enter_settles _ _ s
  · exact .refl s

/-! ## The state in which a request is examined -/

/-- What the events of a tick leave unchanged. -/
theorem State.settled_settles (s : State) : s.Settles s.settled :=
  ((((((((((s.takeSilences_settles).trans (State.takeEach_settles State.benchExpiry_settles _)).trans
    (State.forEach_settles (fun e s => (State.takePulse_plays e s).settles) _)).trans
    (State.takeEach_settles (fun e s => (State.timerExpiry_arbitrates e s).plays.settles) _)).trans
    (State.takeEach_settles (State.acceptSense_settles .s0) _)).trans
    (State.takeEach_settles (State.acceptSense_settles .s1) _)).trans
    (State.forEach_settles State.takeStop_settles _)).trans
    (State.takeEach_settles (fun e s => (State.startPendingFeed_arbitrates e s).plays.settles) _)).trans
    (State.takeEach_settles (fun e s => (State.takeArrival_arbitrates e s).plays.settles) _)).trans
    (State.takeEach_settles (fun e s => (State.settleReturn_arbitrates e s).plays.settles) _)).trans
    (State.takePhase_settles _)

/-- What a complete frame leaves unchanged. -/
theorem State.frameComplete_settles (p : Port) (s : State) : s.Settles (s.frameComplete p) := by
  have h := State.modifyPort_settles (p := p)
    (f := fun x => { x with link := .live, silence := s.timing.silence, silenceDue := false }) s
    fun _ => ⟨rfl, rfl, rfl⟩
  unfold State.frameComplete
  dsimp only
  split
  · split
    · exact h.trans (State.forEach_arbitrates (fun r s => State.raiseRobot_arbitrates _ r s) _).plays.settles
    · exact h
  · exact .refl s

/-- What stands unchanged between a command and the examination of its request. -/
theorem State.examined_settles (p : Port) (s : State) : s.Settles (s.examined p) :=
  (State.settled_settles s).trans (State.frameComplete_settles p _)

/-- The role check reads the role that the port had. -/
@[simp] theorem State.examined_role (p q : Port) (s : State) : (s.examined p).role q = s.role q :=
  State.role_congr ((State.examined_settles p s).strap q)
@[simp] theorem State.examined_pending (p : Port) (s : State) : (s.examined p).pending = s.pending :=
  (State.examined_settles p s).pending
@[simp] theorem State.examined_rst (p : Port) (s : State) : (s.examined p).rst = s.rst :=
  (State.examined_settles p s).rst
@[simp] theorem State.examined_timing (p : Port) (s : State) : (s.examined p).timing = s.timing :=
  (State.examined_settles p s).timing

end Sys2Proof.Machine
end

