-- ==== Sys2Proof/Laws/Serial.lean ====
section
/-! SUPPORT. What a step can do, and what a serial clock can do (R162 to R165). -/

namespace Sys2Proof.Machine

/-! ## Frame receivers -/

@[simp] theorem State.setFrame_port_self (p : Port) (f : Frame) (s : State) :
    (s.setFrame p f).port p = { s.port p with frame := f } := State.port_modifyPort_self _ _ _
theorem State.setFrame_port_ne (p q : Port) (f : Frame) (s : State) (h : q ≠ p) : (s.setFrame p f).port q = s.port q :=
  State.port_modifyPort_ne _ _ _ _ h
@[simp] theorem State.setFrame_element (p : Port) (f : Frame) (s : State) (e : Elem) :
    (s.setFrame p f).element e = s.element e := rfl
@[simp] theorem State.setFrame_robot (p : Port) (f : Frame) (s : State) (r : Robot) :
    (s.setFrame p f).robot r = s.robot r := rfl
@[simp] theorem State.setFrame_clock (p : Port) (f : Frame) (s : State) : (s.setFrame p f).clock = s.clock := rfl
@[simp] theorem State.setFrame_rst (p : Port) (f : Frame) (s : State) : (s.setFrame p f).rst = s.rst := rfl
/-- A frame receiver changes the ports alone. -/
theorem State.setFrame_eq (p : Port) (f : Frame) (s : State) :
    s.setFrame p f = { s with ports := (s.setFrame p f).ports } := rfl
/-- The role of a port is not in its frame receiver (R161). -/
@[simp] theorem State.setFrame_role (p q : Port) (f : Frame) (s : State) : (s.setFrame p f).role q = s.role q := by
  refine State.role_congr ?_
  by_cases h : q = p
  · subst h; simp
  · rw [State.setFrame_port_ne _ _ _ _ h]

/-! ## Inversion -/

/-- A serial clock writes the port's frame receiver, or completes the last byte that a command was waiting for. -/
theorem State.serialClock_cases (p : Port) (high : Bool) (s : State) :
    s.serialClock p high = .next s ∨ (∃ f, s.serialClock p high = .next (s.setFrame p f)) ∨
    ∃ c, decodeFrame (s.role p) p
        ((s.port p).frame.bytes ++ [byteOfBits ((s.port p).frame.bits ++ [high])]) = some c ∧
      s.serialClock p high = exec c (s.setFrame p .begun) := by
  unfold State.serialClock
  dsimp only
  split
  · exact .inl rfl
  · have whole : (∃ f, s.byteIn p (byteOfBits ((s.port p).frame.bits ++ [high])) = .next (s.setFrame p f)) ∨
        ∃ c, decodeFrame (s.role p) p
            ((s.port p).frame.bytes ++ [byteOfBits ((s.port p).frame.bits ++ [high])]) = some c ∧
          s.byteIn p (byteOfBits ((s.port p).frame.bits ++ [high])) = exec c (s.setFrame p .begun) := by
      unfold State.byteIn
      dsimp only
      split
      · exact .inl ⟨_, rfl⟩
      · rename_i c hc
        exact .inr ⟨c, hc, rfl⟩
    split
    · exact .inl rfl
    · split
      · exact .inr (.inl ⟨_, rfl⟩)
      · exact .inr whole
    · split
      · exact .inr (.inl ⟨_, rfl⟩)
      · exact .inr whole
    · exact .inr (.inl ⟨_, rfl⟩)

/-- A step runs the command at the front of the queue, takes a serial clock where no command waits, or idles. -/
theorem step_cases (s : State) :
    (∃ c rest, s.pending = c :: rest ∧ step s = exec c (s.withPending rest)) ∨
    (∃ p high rest, s.pending = [] ∧ s.clocks = (p, high) :: rest ∧
      step s = (s.withClocks rest).serialClock p high) ∨
    (s.pending = [] ∧ s.clocks = [] ∧ step s = .next s) := by
  rcases hp : s.pending with _ | ⟨c, rest⟩
  · rcases hc : s.clocks with _ | ⟨⟨p, high⟩, rest⟩
    · exact .inr (.inr ⟨rfl, rfl, by simp [step, hp, hc]⟩)
    · exact .inr (.inl ⟨p, high, rest, rfl, rfl, by simp [step, hp, hc]⟩)
  · exact .inl ⟨c, rest, rfl, by simp [step, hp]⟩

end Sys2Proof.Machine
end

