-- ==== Sys2Proof/Tests/Slice0.lean ====
section
/-! SUPPORT. Tests on small states, with expected results from the manual's tables and worked examples, and a witness for
every statement that has hypotheses. -/

set_option Elab.async false

namespace Sys2Proof.Tests

open Sys2Proof Sys2Proof.Machine

/-! ## The arena of chapter 11, with a dispenser at E3 and a beacon's header at E4 -/

/-- The state after a command. -/
def after (c : Instr) (s : State) : State :=
  match exec c s with
  | .next t => t
  | .fault _ => s
  | .refused _ => s

/-- The answer of a request on a port. -/
def answer (p : Port) (c : Instr) (s : State) : List Byte := ((after c s).port p).frame.answer

/-- A sense setting: active high, filter 5 ms, edge ACTIVE. -/
def sense5 : SenseSetting := ⟨false, 5, .active⟩

/-- The element headers of section 11.1, and a dispenser. -/
def gateHeader : Header := ⟨.gate, 0, sense5, sense5, false, false, some 2000, some 100, none, none⟩
def goalHeader : Header := ⟨.goal, 0, ⟨false, 2, .active⟩, .reset, false, false, none, none, none, some 300⟩
def beaconHeader : Header := ⟨.beacon, 1, .reset, .reset, false, false, none, none, none, none⟩
def dispenserHeader : Header := ⟨.dispenser, 1, sense5, sense5, false, true, none, none, some 150, none⟩

/-- The profiles of Table 11-1, one of a dispenser with quota 2, and one with a feed. -/
def gateUse : Profile := ⟨.claim, some 7, some 0, none, none, none, none, none, none⟩
def goalUse : Profile := ⟨.claim, some 7, some 0, some 0, some 5, some .holder, none, none, none⟩
def beaconUse : Profile := ⟨.claim, some 7, some 30, some 500, some 3, none, none, some 2000, none⟩
def dispenserUse : Profile := ⟨.claim, some 7, some 20, some 0, none, none, none, none, some 2⟩
def feedUse : Profile := ⟨.auto, none, none, none, none, none, some 3000, none, none⟩

/-- An element under a header, with a profile for DRIVE and one for the other live phases. -/
def element (h : Header) (drive rest : Profile) : Element :=
  { Element.reset false false with header := h, planAuto := rest, planDrive := drive, planEndgame := rest }

/-- A robot bound to a port. -/
def robot (p : Port) (a : Alliance) : RobotRecord := { RobotRecord.reset with bound := some p, alliance := some a }

/-- The arena in SETUP, every port's frame receiver in CODE. -/
def arena : State :=
  let s := State.reset
  let s := s.setElement 0 (element gateHeader gateUse .closed)
  let s := s.setElement 1 (element goalHeader goalUse goalUse)
  let s := s.setElement 2 (element beaconHeader beaconUse .closed)
  let s := s.setElement 3 (element dispenserHeader dispenserUse feedUse)
  let s := (((s.setRobot 0 (robot 1 0)).setRobot 1 (robot 2 1)).setRobot 2 (robot 3 2)).setRobot 3 (robot 1 0)
  { s with timing := ⟨15, 5, 120, 30, 2, 1, 2, 500⟩
           ports := rewriteAll (fun _ x => { x with frame := .begun }) s.ports }

/-- A state in a match state with a remaining time, alliances 0 to 2 in play. -/
def inState (m : MatchState) (ms : Nat) (s : State) : State := s.setClock ⟨m, ms, none, false, 7⟩

/-- The arena in DRIVE, its elements FREE and the gate AT_REST, every silence timer at 500 ms. -/
def drive : State :=
  let s := [0, 1, 2, 3].foldl (fun s e => s.modifyElement e fun x => { x with claim := ⟨.free, none, []⟩ })
    (inState .drive 118000 arena)
  let s := s.modifyElement 0 fun x => { x with motion := .atRest }
  { s with ports := rewriteAll (fun p x => if s.isBridge p then { x with silence := 500 } else x) s.ports }

/-- DRIVE with an element held by a robot. -/
def holding (e : Elem) (r : Robot) : State := drive.setClaim e ⟨.held r, none, []⟩

/-- The same with a robot waiting. -/
def contested (e : Elem) (r w : Robot) : State := drive.setClaim e ⟨.held r, none, [w]⟩

/-- An element RETURNING with its timer stopped. -/
def returning (e : Elem) (ws : List Robot) : State := drive.setClaim e ⟨.returning, some 1, ws⟩

/-- A held element of another motion state. -/
def moving (m : Motion) (u : PulseUnit) : State :=
  (holding 0 1).modifyElement 0 fun x => { x with motion := m, pulse := u }

/-- A running SHOT of 2000 ms and a running STROBE of 100 ms at a count. -/
def shot (k : Nat) : PulseUnit := ⟨.shot, 2000, k, .first, true, true, none⟩
def strobe (k : Nat) : PulseUnit := ⟨.strobe, 100, k, .first, false, true, none⟩

/-! ## Well-formedness -/

/-- R163: UNKNOWN answers codes outside Table 9-7 alone, and ROLE those of the table that some role is refused. -/
theorem test_ill_formed_unknown : (Instr.unknownAnswer 1 0x20).wellFormed = false := by decide
theorem test_ill_formed_role_unknown_code : (Instr.roleAnswer 1 0x0A).wellFormed = false := by decide
theorem test_ill_formed_role_open_to_all : (Instr.roleAnswer 1 0x01).wellFormed = false := by decide
theorem test_ill_formed_role_referee : (Instr.roleAnswer 0 0x50).wellFormed = false := by decide
theorem test_well_formed_role : (Instr.roleAnswer 0 0x20).wellFormed = true := by decide

/-! ## Frames written out from Tables 9-3, 9-6 and 9-7 -/

/-- Table 9-3: CLAIM of E10 by robot 7 on P1. -/
theorem test_decode_claim : decodeFrame .bridge 1 [0x20, 0x07, 0x0A] = some (.claim 1 7 10) := by decide
theorem test_decode_claim_cut : decodeFrame .bridge 1 [0x20, 0x07] = none := by decide
theorem test_decode_claim_panel : decodeFrame .panel 4 [0x20] = some (.roleAnswer 4 0x20) := by decide
theorem test_decode_unknown : decodeFrame .referee 0 [0x0A, 0x01] = some (.unknownAnswer 0 0x0A) := by decide
/-- Table 9-7 with R171: two-byte values most significant first. -/
theorem test_decode_set_timing : decodeFrame .referee 0
    [0x40, 0x01, 0x90, 0x00, 0x05, 0x00, 0x05, 0x00, 0x1E, 0x00, 0x03, 0x07, 0x00, 0x32] =
    some (.setTiming 0 ⟨400, 5, 5, 30, 0, 3, 7, 50⟩) := by decide
theorem test_decode_snapshot : decodeFrame .panel 4 [0x08, 0x80, 0x00, 0x03] = some (.snapshot 4 0x800003) := by decide
theorem test_decode_adjust : decodeFrame .referee 0 [0x61, 0x02, 0x00, 0x05] = some (.adjust 0 2 5) := by decide
theorem test_decode_line_test : decodeFrame .referee 0 [0x45, 0x04, 0x01, 0x01, 0xF4] =
    some (.lineTest 0 4 1 500) := by decide
theorem test_decode_stage_put : decodeFrame .referee 0
    [0x71, 0x01, 0x01, 0x03, 0x00, 0x00, 0x00, 0x08, 0x10, 0x00, 0x00, 0x00, 0x00, 0x00] =
    some (.stagePut 0 1 ⟨1, 3, 0, 0, 8, 0x10, 0, 0, 0⟩) := by decide
/-- No row of the table gives bits. -/
theorem test_no_word : decodeTableWord 8 0x20 = none := rfl

/-! ## One step of each command -/

/-- R161: straps high make bridge ports, P0 is always the referee's. R142: a low FS pin is asserted. -/
theorem test_reset_roles : ((List.finRange 6).map (after (.hardwareReset 0b00111 0 0b1101) drive).role) =
    [.referee, .bridge, .bridge, .bridge, .panel, .panel] := by decide +kernel
theorem test_reset_field_stop : ((List.finRange 4).map fun g =>
    ((after (.hardwareReset 0b00111 0 0b1101) drive).stop g).asserted) = [false, true, false, false] := by decide +kernel

/-- R4, R53: a tick of DRIVE lowers the remaining time and the silence timers of bridge ports. -/
theorem test_tick_counts : (after (.tick 0 0b1111) drive).clock.remaining = 117999 ∧
    ((List.finRange 6).map fun p => ((after (.tick 0 0b1111) drive).port p).silence) = [0, 499, 499, 499, 0, 0] := by
  decide +kernel
/-- R2: in HALTED no claim timer counts, but a line is sampled. -/
theorem test_tick_in_halt :
    let s := inState .halted 5 ((holding 2 2).setTimer 2 ⟨true, 9⟩)
    let t := after (.tick 1 0b1111) { s with clock := { s.clock with haltedFrom := some .drive } }
    (t.element 2).timer = ⟨true, 9⟩ ∧ (t.element 0).s0 = ⟨false, some 5⟩ ∧ t.clock.remaining = 5 := by decide +kernel

/-- Table 1-7: the default match goes from AUTO to BREAK at 5,000 ms, and from BREAK to DRIVE at 120,000 ms. -/
theorem test_auto_expiry : (after .autoExpiry (inState .auto 0 arena)).clock = ⟨.brk, 5000, none, false, 7⟩ := by
  decide +kernel
theorem test_break_expiry : (after .breakExpiry (inState .brk 0 arena)).clock = ⟨.drive, 120000, none, false, 7⟩ := by
  decide +kernel
/-- R16: the remaining time carries on from the threshold; at 0 the match is FINISHED. -/
theorem test_threshold : (after .endgameThreshold (inState .drive 30000 arena)).clock =
    ⟨.endgame, 30000, none, false, 7⟩ := by decide +kernel
theorem test_natural_finish : (after .naturalFinish (inState .endgame 0 arena)).clock =
    ⟨.finished, 0, none, false, 7⟩ := by decide +kernel
/-- Section 11.7: E2's ENDGAME profile is CLOSED, so FREE becomes INERT, and E0 stays FREE under its own. -/
theorem test_threshold_claims :
    let s := (inState .drive 30000 drive).modifyElement 0 fun x => { x with planEndgame := gateUse }
    ((after .endgameThreshold s).claim 0).state = .free ∧ ((after .endgameThreshold s).claim 2).state = .inert := by
  decide +kernel

/-- R103, R121: a feed of 3000 ms starts with a FIRST half of 1,500 ms, D0 active. -/
theorem test_feed_pending :
    let s := (inState .auto 9000 arena).modifyElement 3 fun x => { x with feedPending := true }
    ((after (.feedPendingStart 3) s).element 3).pulse = ⟨.wave, 3000, 1500, .first, true, true, none⟩ ∧
    ((after (.feedPendingStart 3) s).element 3).feed = .running := by decide +kernel

/-- Table 11-6: the bench of robot 2 reaches 0 in DRIVE, CLEARED with value 1 to P3. -/
theorem test_bench_expiry :
    let s := (inState .drive 105000 drive).modifyRobot 2 fun x => { x with standing := .benched, strikes := 1 }
    ((after (.benchExpiry 2) s).port 3).queue = [⟨.robot, some .cleared, some 2, none, .drive, 1050, some 1⟩] ∧
    ((after (.benchExpiry 2) s).robot 2).standing = .clear := by decide +kernel

/-- Table 11-6: P3 falls silent while robot 2 holds E2: ROBOT STALE, then LOST STALE, and a cooldown of 500 ms. -/
theorem test_silence_expiry :
    let s := (inState .drive 91200 (holding 2 2)).modifyPort 3 fun x => { x with silence := 0, silenceDue := true }
    ((after (.silenceExpiry 3) s).port 3).queue =
      [⟨.robot, some .stale, some 2, none, .drive, 912, some 0⟩, ⟨.lost, some .stale, some 2, some 2, .drive, 912, none⟩] ∧
    (after (.silenceExpiry 3) s).claim 2 = ⟨.returning, some 2, []⟩ ∧
    ((after (.silenceExpiry 3) s).element 2).timer = ⟨true, 500⟩ := by decide +kernel

/-- R133: the silence removal taken before the tick of E2's claim timer: that tick lowers the cooldown of 500 ms, and no
EXPIRED ending happens; a hold that the tick did not end loads the full cooldown (R129). -/
theorem test_removal_before_tick :
    let s : Nat → State := fun n => ((holding 2 2).setTimer 2 ⟨true, n⟩).modifyPort 3 fun x => { x with silenceDue := true }
    ((after (.silenceExpiry 3) (s 0)).element 2).timer = ⟨true, 499⟩ ∧
    (after (.claimTimerExpiry 2) (after (.silenceExpiry 3) (s 0))).claim 2 = ⟨.returning, some 2, []⟩ ∧
    ((after (.silenceExpiry 3) (s 7)).element 2).timer = ⟨true, 500⟩ := by decide +kernel
/-- R133: QUOTA taken before the tick of E3's claim timer; a cooldown of 1 ms is then at 0, and its expiry settles E3. -/
theorem test_quota_before_tick :
    let s := (holding 3 0).modifyElement 3 fun x => { x with
      quotaMark := true, pulse := shot 0, timer := ⟨true, 0⟩, planDrive := { dispenserUse with cooldown := some 1 } }
    let t := after (.shotExpiry 3) s
    (t.claim 3).state = .returning ∧ (t.element 3).timer = ⟨true, 0⟩ ∧
    (after (.claimTimerExpiry 3) t).claim 3 = ⟨.free, some 0, []⟩ := by decide +kernel

/-- P1 falls silent. R77: its robots 0 and 3 hold E1 and wait on it, cooldown 0: both lose their place and none is granted.
R72: where they wait on E2 at positions 1 and 2, their DROPPED notices carry these. -/
theorem test_silence_expiry_same_port :
    let silent : State → State := fun s => after (.silenceExpiry 1) (s.modifyPort 1 fun x => { x with silenceDue := true })
    let t := silent (contested 1 0 3)
    let u := silent (drive.setClaim 2 ⟨.held 1, none, [0, 3]⟩)
    t.claim 1 = ⟨.free, some 0, []⟩ ∧ ((t.port 1).queue.map Notice.kind) = [.robot, .lost, .robot, .dropped] ∧
    u.claim 2 = ⟨.held 1, none, []⟩ ∧
    (u.port 1).queue.map (fun n => (n.kind, n.robot, n.value)) =
      [(.robot, some 0, some 0), (.dropped, some 0, some 1), (.robot, some 3, some 0), (.dropped, some 3, some 2)] := by
  decide +kernel

/-- Table 11-5: E0's shot expires before its limit: LOST JAM to P2, then DROPPED JAM to P1, ELEMENT BLOCKED to P0. -/
theorem test_shot_expiry_jams :
    let s := ((inState .drive 113000 (contested 0 1 3))).modifyElement 0 fun x =>
      { x with motion := .movingOut, pulse := shot 0 }
    let t := after (.shotExpiry 0) s
    t.claim 0 = ⟨.blocked .jam, some 1, []⟩ ∧ (t.element 0).motion = .stopped ∧
    (t.port 2).queue = [⟨.lost, some .jam, some 1, some 0, .drive, 1130, none⟩] ∧
    (t.port 1).queue = [⟨.dropped, some .jam, some 3, some 0, .drive, 1130, some 1⟩] ∧
    (t.port 0).queue = [⟨.element, some .blocked, none, some 0, .drive, 1130, some 2⟩] := by decide +kernel
/-- R101: the release shot at the quota ends the claim with QUOTA; cooldown 0 settles E3 at once. -/
theorem test_shot_expiry_quota :
    let s := (holding 3 0).modifyElement 3 fun x => { x with shots := 2, quotaMark := true, pulse := shot 0 }
    (after (.shotExpiry 3) s).claim 3 = ⟨.free, some 0, []⟩ ∧ ((after (.shotExpiry 3) s).element 3).shots = 0 := by
  decide +kernel

/-- Table 11-6: the fourth interval of robot 2's beacon takes A[2] from −1 to 2. -/
theorem test_rate_expiry :
    let s := (holding 2 2).modifyElement 2 fun x => { x with pulse := ⟨.rate, 2000, 0, .first, false, true, none⟩ }
    let t := after (.rateExpiry 2) { s with accumulators := s.accumulators.set 2 (-1) }
    t.accumulators.get 2 = 2 ∧ t.published.get 2 = 2 ∧ (t.element 2).pulse.count = 2000 := by decide +kernel

/-- R121, R126: at the active-going change a tuned value of 5 ms becomes the period, with 3 ms active. -/
theorem test_wave_change :
    let s := drive.modifyElement 3 fun x => { x with pulse := ⟨.wave, 3000, 0, .second, false, true, some (5, .wave)⟩ }
    ((after (.waveHalfChange 3) s).element 3).pulse = ⟨.wave, 5, 3, .first, true, true, none⟩ := by decide +kernel

/-- Table 11-5: at the end of the brake the gate moves back with its motion limit. -/
theorem test_strobe_expiry :
    ((after (.strobeExpiry 0) (moving (.braking .back) (strobe 0))).element 0).motion = .movingBack ∧
    ((after (.strobeExpiry 0) (moving (.braking .back) (strobe 0))).element 0).pulse = shot 2000 := by decide +kernel

/-- Table 11-6: with the cooldown's expiry E2 is FREE. -/
theorem test_claim_timer_expiry :
    let s := (returning 2 []).setTimer 2 ⟨true, 0⟩
    (after (.claimTimerExpiry 2) s).claim 2 = ⟨.free, some 1, []⟩ := by decide +kernel
/-- R133: the cooldown's tick taken before the boundary settles by the profile before it, so that robot 2 is granted E2;
ENDGAME's CLOSED profile then ends that claim, with its alliance recorded. -/
theorem test_expiry_before_boundary :
    let s := (inState .drive 30000 (returning 2 [2])).setTimer 2 ⟨true, 0⟩
    let t := after (.claimTimerExpiry 2) s
    (t.claim 2).state = .held 2 ∧ (after .endgameThreshold t).claim 2 = ⟨.inert, some 2, []⟩ := by decide +kernel

/-- Table 11-4: a piece in E1 credits 5 × 2 to its holder's alliance in AUTO and lights the lamp for 300 ms. -/
theorem test_piece :
    let s := (inState .auto 12000 (holding 1 0)).modifyElement 1 fun x => { x with s0 := ⟨false, some 0⟩ }
    let t := after (.senseChangeAccepted 1 .s0) s
    t.accumulators.get 0 = 10 ∧ (t.element 1).pieces = 1 ∧
    (t.element 1).pulse = ⟨.shot, 300, 300, .first, true, true, none⟩ := by decide +kernel
/-- R106: under CLAIM use with no holder the piece is an orphan. -/
theorem test_orphan :
    let s := drive.modifyElement 1 fun x => { x with s0 := ⟨false, some 0⟩ }
    let t := after (.senseChangeAccepted 1 .s0) s
    t.accumulators.get 0 = 0 ∧ (t.element 1).orphans = 1 := by decide +kernel

/-- Table 11-7: FS0 blocks E0 and E1, and robot 0 loses E1; E2 of group 1 is untouched. -/
theorem test_field_stop :
    let t := after (.fieldStopAsserted 0) ((inState .drive 80000 (holding 1 0)).setStop 0 ⟨false, some 0⟩)
    t.claim 0 = ⟨.blocked .field, none, []⟩ ∧ t.claim 1 = ⟨.blocked .field, some 0, []⟩ ∧ (t.claim 2).state = .free ∧
    (t.port 1).queue = [⟨.lost, some .field, some 0, some 1, .drive, 800, none⟩] := by decide +kernel
theorem test_field_clear :
    ((after (.fieldStopReleased 0) (drive.setStop 0 ⟨true, some 0⟩)).port 0).queue =
      [⟨.element, some .fieldClear, none, none, .drive, 1180, some 0⟩] := by decide +kernel

/-- Table 11-3: S0 of the homing E0 is accepted active, and the gate stands AT_REST with its unit IDLE. -/
theorem test_gate_arrival :
    let s := (inState .armed 0 arena).modifyElement 0 fun x =>
      { x with motion := .movingBack, purpose := .home, pulse := shot 1200, s0 := ⟨true, none⟩ }
    ((after (.gateArrival 0) s).element 0).motion = .atRest ∧ ((after (.gateArrival 0) s).element 0).pulse.mode = .idle ∧
    (after (.gateArrival 0) s).anyHoming = false := by decide +kernel

/-- R76: robot 1 of the last holder's alliance yields to robot 2, who came later; GRANT with hold 30 to P3. -/
theorem test_return_end :
    let t := after (.returnEnd 2) (returning 2 [1, 2])
    t.claim 2 = ⟨.held 2, some 1, [1]⟩ ∧ (t.element 2).timer = ⟨true, 30000⟩ ∧
    (t.port 3).queue = [⟨.grant, none, some 2, some 2, .drive, 1180, some 30⟩] := by decide +kernel

/-- R170: a panel port learns its role and counts. -/
theorem test_ping : answer 4 (.ping 4) arena = [0x00, 0x04, 0x02, 0x00, 0x00] := by decide +kernel
/-- R22: 14,999 ms reads 149 tenths. -/
theorem test_read_clock : answer 0 (.readClock 0) (inState .auto 14999 arena) =
    [0x00, 0x02, 0xFF, 0x00, 0x95, 0x00, 0x07] := by decide +kernel
/-- Section 11.8: the scores in CLOSED, with the shares 43, 50 and 6. -/
theorem test_read_scores : answer 4 (.readScores 4)
    { inState .closed 0 arena with
      accumulators := #v[50, 58, 7, 0], published := #v[50, 58, 7, 0] } =
    [0x00, 0x07, 0, 0, 0, 50, 0, 50, 43, 0, 0, 0, 58, 0, 58, 50, 0, 0, 0, 7, 0, 7, 6, 0, 0, 0, 0, 0, 0, 0] := by
  decide +kernel
/-- Table 8-5: with no alliance in play the ZERO flag is set. -/
theorem test_zero_flag : (answer 0 (.readScores 0) arena)[1]? = some 0x80 := by decide +kernel
/-- Table 9-6 and R59: robot 1 holds E0 and robot 0 waits there at position 1. -/
theorem test_read_robot_holder : answer 4 (.readRobot 4 1) (contested 0 1 0) =
    [0x00, 0x02, 0x01, 0x00, 0x00, 0x00, 0x00, 0x00, 0x01, 0x00, 0xFF, 0x00] := by decide +kernel
theorem test_read_robot_waiter : answer 4 (.readRobot 4 0) (contested 0 1 0) =
    [0x00, 0x01, 0x00, 0x00, 0x00, 0x00, 0x00, 0x00, 0x01, 0xFF, 0x00, 0x01] := by decide +kernel
/-- R114: E0 braking toward BACK, held by robot 1. -/
theorem test_read_element : answer 0 (.readElement 0 0) (moving (.braking .back) (strobe 50)) =
    [0x00, 0x01, 0x00, 0x01, 0x02, 0x01, 0xFF, 0x00, 0x00, 0x05, 0x01, 0x00, 0x00, 0, 0, 0, 0, 0, 0, 0] := by
  decide +kernel

/-- R180, R173: a PHASE HALT entry of DRIVE at 11.0 s with value DRIVE, in eight bytes; the queue is then empty. -/
theorem test_read_notice :
    let n : Notice := ⟨.phase, some .halt, none, none, .halted, 110, some 4⟩
    let s := drive.modifyPort 4 fun x => { x with queue := [n] }
    answer 4 (.readNotice 4 16) s = [0x00, 0x01, 0x58, 0x05, 0xFF, 0xFF, 0x80, 0x6E, 0x00, 0x04] ∧
    ((after (.readNotice 4 16) s).port 4).queue = [] := by decide +kernel
theorem test_read_notice_count : answer 4 (.readNotice 4 17) drive = [0x82, 0x00] := by decide +kernel
/-- R178: bits 7 to 3 of the mask are ignored. -/
theorem test_subscribe : answer 4 (.subscribe 4 0xF9) arena = [0x00, 0x01] ∧
    ((after (.subscribe 4 0xF9) arena).port 4).subscription = ⟨true, false, false⟩ := by decide +kernel
/-- R182: E0 and E2 are latched in element order; a second SNAPSHOT is refused. -/
theorem test_snapshot : answer 4 (.snapshot 4 5) drive = [0x00, 0x02] ∧
    (((after (.snapshot 4 5) drive).port 4).snapshot.map SnapEntry.element) = [0, 2] := by decide +kernel
theorem test_snapshot_pending :
    let s := (after (.snapshot 4 5) drive).modifyPort 4 fun x => { x with frame := .begun }
    answer 4 (.snapshot 4 1) s = [0x8E, 0x00] := by decide +kernel
/-- Table 9-10: E0 held by robot 1, one waiter, MOVING_OUT with its SHOT at 1,400 ms and D0's unit output active. -/
theorem test_read_snapshot :
    let s := ((contested 0 1 3).modifyElement 0 fun x => { x with motion := .movingOut, pulse := shot 1400 })
    let t := (after (.snapshot 4 1) s).modifyPort 4 fun x => { x with frame := .begun }
    answer 4 (.readSnapshot 4) t =
      [0x00, 0x01, 0x00, 0x12, 0x01, 0x02, 0x11, 0x05, 0x78, 0x00, 0x00, 0x00, 0x00, 0x00] := by decide +kernel

/-- Table 11-6: robot 2 is granted E2 for 30 s, its unit started in RATE with 2000. -/
theorem test_claim_granted : answer 3 (.claim 3 2 2) drive = [0x01, 0x02, 0x1E, 0x00] ∧
    ((after (.claim 3 2 2) drive).element 2).pulse = ⟨.rate, 2000, 2000, .first, false, true, none⟩ := by decide +kernel
/-- Table 11-5: robot 0 is queued on E0 at position 2 behind robot 3. -/
theorem test_claim_queued : answer 1 (.claim 1 0 0) (contested 0 1 3) = [0x02, 0x00, 0x00, 0x02] := by decide +kernel
/-- R65, R96: a release at rest ends the return at once; the wait list's robot is granted. -/
theorem test_release : (after (.release 2 1 0) (contested 0 1 3)).claim 0 = ⟨.held 3, some 1, []⟩ := by decide +kernel
theorem test_release_not_holder : answer 1 (.release 1 3 0) (contested 0 1 3) = [0x8D] := by decide +kernel
/-- R66: the element and the position it had. -/
theorem test_withdraw : answer 1 (.withdraw 1 3) (contested 0 1 3) = [0x00, 0x00, 0x01] := by decide +kernel
/-- Table 11-5: MOVE OUT drives with 2000 ms, MOVE BACK brakes with 100 ms. -/
theorem test_move_out : answer 2 (.move 2 1 0 0) (moving .atRest .stopped) = [0x00, 0x02] ∧
    ((after (.move 2 1 0 0) (moving .atRest .stopped)).element 0).pulse = shot 2000 := by decide +kernel
theorem test_move_reversal : answer 2 (.move 2 1 0 1) (moving .movingOut (shot 1400)) = [0x00, 0x05] ∧
    ((after (.move 2 1 0 1) (moving .movingOut (shot 1400))).element 0).pulse = strobe 100 := by decide +kernel
/-- R100: the second shot of quota 2 sets the quota mark; a shot in progress answers BUSY. -/
theorem test_dispense :
    let s := (holding 3 0).modifyElement 3 fun x => { x with shots := 1 }
    answer 1 (.dispense 1 0 3) s = [0x00, 0x02, 0x02] ∧ ((after (.dispense 1 0 3) s).element 3).quotaMark = true := by
  decide +kernel
theorem test_dispense_busy :
    answer 1 (.dispense 1 0 3) ((holding 3 0).modifyElement 3 fun x => { x with pulse := shot 7 }) = [0x8B, 0, 0] := by
  decide +kernel

/-- Table 1-5. -/
theorem test_set_timing : answer 0 (.setTiming 0 ⟨400, 5, 5, 30, 0, 3, 7, 50⟩) arena =
    [0x00, 0x01, 0x2C, 0, 5, 0, 10, 0, 10, 1, 3, 4, 0, 100] := by decide +kernel
/-- Section 11.1: the header of E0. -/
theorem test_set_element :
    let s := arena.setElement 0 (Element.reset false false)
    ((after (.setElement 0 0 ⟨1, 0, 0x05, 0x05, 0, 2000, 100⟩) s).element 0).header = gateHeader ∧
    answer 0 (.setElement 0 0 ⟨1, 0, 0x05, 0x05, 0, 2000, 100⟩) s =
      [0x00, 0x00, 0x01, 0x00, 0x05, 0x05, 0x00, 0x07, 0xD0, 0x00, 0x64] := by decide +kernel
theorem test_set_element_range : (answer 0 (.setElement 0 0 ⟨1, 0, 0x05, 0x05, 0, 99, 100⟩) arena).head? = some 0x82 := by
  decide +kernel
/-- Table 11-1: E2's DRIVE profile; fields that the pair does not carry read 0x00, an absent credit 0xFF. -/
theorem test_set_profile :
    let args : ProfileArgs := ⟨1, 7, 30, 500, 3, 0x02, 9, 2000, 9⟩
    ((after (.setProfile 0 2 5 args) arena).element 2).planEndgame = beaconUse ∧
    answer 0 (.setProfile 0 2 5 args) arena =
      [0x00, 2, 5, 1, 7, 30, 0x01, 0xF4, 3, 0xFF, 0, 0, 0x07, 0xD0, 0] := by decide +kernel
/-- R44: P4 is a panel port. -/
theorem test_bind : (after (.bind 0 9 3 1) arena).robot 9 = robot 3 1 := by decide +kernel
theorem test_bind_panel : answer 0 (.bind 0 9 4 1) arena = [0x82] := by decide +kernel
theorem test_unbind : (after (.unbind 0 0) arena).robot 0 = RobotRecord.reset ∧
    answer 0 (.unbind 0 9) arena = [0x03] := by decide +kernel
/-- R140: D1 of E3 follows the test, D0 does not. -/
theorem test_line_test :
    let t := after (.lineTest 0 3 1 500) arena
    t.driveActive 3 .d1 = true ∧ t.driveActive 3 .d0 = false ∧ (t.element 3).pulse.count = 500 := by decide +kernel

/-- Table 11-3: ARM homes E0 with a SHOT of 2000 and fixes the alliances in play; START waits for it. -/
theorem test_arm :
    let t := after (.arm 0) arena
    t.clock = ⟨.armed, 0, none, false, 7⟩ ∧ (t.element 0).motion = .movingBack ∧ (t.element 0).pulse = shot 2000 ∧
    (t.port 5).queue = [⟨.phase, some .arm, none, none, .armed, 0, some 0⟩] := by decide +kernel
/-- R28: a goal with an AUTO profile of HOLDER credit fails. -/
theorem test_arm_plan : answer 0 (.arm 0) (arena.modifyElement 1 fun x => { x with planAuto := { goalUse with use := .auto } }) =
    [0x90, 0x01] := by decide +kernel
theorem test_start_not_ready :
    answer 0 (.start 0) ((after (.arm 0) arena).modifyPort 0 fun x => { x with frame := .begun }) = [0x92] := by
  decide +kernel
theorem test_start : (after (.start 0) (inState .armed 0 arena)).clock = ⟨.auto, 15000, none, false, 7⟩ ∧
    ((after (.start 0) (inState .armed 0 arena)).claim 1).state = .free := by decide +kernel
theorem test_disarm : (after (.disarm 0) (inState .armed 0 arena)).clock = ⟨.setup, 0, none, false, 0⟩ := by
  decide +kernel
/-- R17: the halted-from phase and the held count. -/
theorem test_halt : (after (.halt 0) drive).clock = ⟨.halted, 118000, some .drive, false, 7⟩ := by decide +kernel
theorem test_resume : (after (.resume 0) (drive.setClock ⟨.halted, 118000, some .drive, false, 7⟩)).clock = drive.clock := by
  decide +kernel
/-- R19: the remaining time is kept, the aborted mark set; a claim ends with PHASE. -/
theorem test_abort : (after (.abort 0) (holding 1 0)).clock = ⟨.finished, 118000, none, true, 7⟩ ∧
    (after (.abort 0) (holding 1 0)).claim 1 = ⟨.inert, some 0, []⟩ := by decide +kernel
theorem test_finalise : (after (.finalise 0) (inState .finished 0 arena)).clock = ⟨.closed, 0, none, false, 7⟩ := by
  decide +kernel
/-- R21, R113: robots are unbound, a gate at rest keeps its place. -/
theorem test_new_match :
    let s := (inState .closed 0 arena).modifyElement 0 fun x => { x with motion := .atRest }
    let t := after (.newMatch 0) s
    t.clock = ⟨.setup, 0, none, false, 0⟩ ∧ t.robot 0 = RobotRecord.reset ∧ (t.element 0).motion = .atRest := by
  decide +kernel

/-- Table 11-4: 10 points and 20 s for robot 2 in AUTO: A[2] is −10, one strike, BENCHED. -/
theorem test_penalty :
    let s := inState .auto 5000 arena
    answer 0 (.penalty 0 2 10 20) s = [0x00, 0x01, 0x01, 0x14] ∧
    (after (.penalty 0 2 10 20) s).accumulators.get 2 = -10 ∧
    ((after (.penalty 0 2 10 20) s).robot 2).bench = 20000 := by decide +kernel
/-- R47: the third strike is OUT, whatever the bench. -/
theorem test_penalty_out :
    answer 0 (.penalty 0 2 0 20) (drive.modifyRobot 2 fun x => { x with strikes := 2 }) = [0x00, 0x03, 0x02, 0x00] := by
  decide +kernel
/-- R152: +1000 on 99,500 answers 1000 and 99,999. -/
theorem test_adjust_saturates :
    answer 0 (.adjust 0 2 5000) { drive with accumulators := drive.accumulators.set 2 99500 } =
      [0x00, 0x03, 0xE8, 0x00, 0x01, 0x86, 0x9F] := by decide +kernel
/-- Section 8.1: −5 with a credit of 8 gives 3, S from 0 to 3 with one SCORE notice; −50 with 30 gives none. -/
theorem test_score_notice :
    let s := (drive.modifyPort 4 fun x => { x with subscription := ⟨true, false, false⟩ })
    let low : Int → State := fun a => { s with accumulators := s.accumulators.set 0 a }
    (((low (-5)).addScore 0 8).port 4).queue = [⟨.score, some (.alliance 0), none, none, .drive, 1180, some 3⟩] ∧
    (((low (-50)).addScore 0 30).port 4).queue = [] := by decide +kernel
theorem test_free : (after (.free 0 1) (holding 1 0)).claim 1 = ⟨.free, some 0, []⟩ ∧
    answer 0 (.free 0 1) drive = [0x03] := by decide +kernel
/-- Table 11-7: REARM E0 starts its return; REARM E1 makes it FREE. -/
theorem test_rearm_gate :
    let s := (drive.setClaim 0 ⟨.blocked .field, none, []⟩).modifyElement 0 fun x => { x with motion := .stopped }
    answer 0 (.rearm 0 0) s = [0x00, 0x03] ∧ ((after (.rearm 0 0) s).element 0).pulse = shot 2000 := by decide +kernel
theorem test_rearm_goal : answer 0 (.rearm 0 1) (drive.setClaim 1 ⟨.blocked .field, some 0, []⟩) = [0x00, 0x01] := by
  decide +kernel
/-- Table 6-4: a lamp's range is 1 to 5000 ms. -/
theorem test_tune :
    answer 0 (.tune 0 1 6000) (drive.modifyElement 1 fun x => { x with pulse := ⟨.shot, 300, 200, .first, true, true, none⟩ }) =
      [0x00, 0x13, 0x88] := by decide +kernel
theorem test_tune_idle : answer 0 (.tune 0 1 400) drive = [0x82, 0, 0] := by decide +kernel

/-- Section 11.7: OPEN, then a PUT of E1 with weight 8, then SEAL, each with its count. -/
theorem test_stage_open : answer 0 (.stageOpen 0) drive = [0x00] ∧ answer 0 (.stageOpen 0) arena = [0x83] := by
  decide +kernel
theorem test_stage_put : answer 0 (.stagePut 0 1 ⟨1, 3, 0, 0, 8, 0x10, 0, 0, 0⟩)
    { drive with stage := ⟨.opened, Stage.reset.entries⟩ } = [0x00, 0x01] := by decide +kernel
theorem test_stage_seal : answer 0 (.stageSeal 0) { drive with stage := ⟨.opened, Stage.reset.entries.set 1 (some goalUse)⟩ } =
    [0x00, 0x01] := by decide +kernel
theorem test_stage_seal_empty : answer 0 (.stageSeal 0) { drive with stage := ⟨.opened, Stage.reset.entries⟩ } =
    [0x82, 0x00] := by decide +kernel
theorem test_stage_discard : answer 0 (.stageDiscard 0) drive = [0x8F, 0x00] := by decide +kernel

/-- R163: UNKNOWN has no answer bytes; MOVE from the referee port is answered ROLE with its one byte. -/
theorem test_unknown : answer 1 (.unknownAnswer 1 0x0A) drive = [0x80] := by decide +kernel
theorem test_role : answer 0 (.roleAnswer 0 0x23) drive = [0x81, 0x00] := by decide +kernel
/-- R162: a release in ARGUMENTS discards the frame. -/
theorem test_select_released :
    let s := after (.selectReleased 1) (drive.setFrame 1 ⟨.arguments, [], [0x20, 0x07], [], 0⟩)
    (s.port 1).frame = .idle ∧ ((after (.claim 1 0 1) s).claim 1).state = .free := by decide +kernel
theorem test_select_active :
    ((after (.selectActive 1) (drive.setFrame 1 .idle)).port 1).frame = .begun := by decide +kernel
theorem test_rst_active :
    let t := after .rstActive (moving .movingOut (shot 9))
    t.driveActive 0 .d0 = false ∧ (t.port 1).frame = .idle ∧ (moving .movingOut (shot 9)).driveActive 0 .d0 = true := by
  decide +kernel
/-- Table 9-3: after its first byte, CLAIM of E10 by robot 7 on P1 is in ARGUMENTS; three bits later they wait (R162). -/
theorem test_clock_arguments :
    (match drive.clockAll 1 (byteBits 0x20 ++ [false, true, true]) with
      | .next t => (t.port 1).frame
      | .fault _ => .idle
      | .refused _ => .idle) = ⟨.arguments, [false, true, true], [0x20], [], 0⟩ := by decide +kernel
/-- Table 9-3: the last argument byte completes the request; of its answer 0x84 the first two bits are 1 and 0, and after the
answer every byte reads 0x00 (R165). -/
theorem test_clock_answer :
    (match drive.clockAll 1 ([0x20, 0x07, 0x0A].flatMap byteBits) with
      | .next t => [(t.port 1).frame, { (t.port 1).frame with sent := 1 }, { (t.port 1).frame with sent := 32 }].map Frame.dataOut
      | .fault _ => []
      | .refused _ => []) = [some true, some false, some false] := by decide +kernel
/-- The front command runs, the rest waits. -/
theorem test_step : (match step (drive.withPending [.selectReleased 1, .halt 0]) with
    | .next t => t.pending
    | .fault _ => []
    | .refused _ => []) = [.halt 0] := by decide +kernel
/-- Table 10-3: the sixteenth entry is an OVERFLOW entry, and behind it records are discarded. -/
theorem test_queue_overflow :
    let n : Notice := ⟨.phase, some .time, none, none, .finished, 0, some 5⟩
    (enqueue (List.replicate 15 n) n).getLast?.map Notice.kind = some .overflow ∧
    (enqueue (enqueue (List.replicate 15 n) n) n).length = 16 := by decide +kernel

/-! ## Witnesses: states that meet the hypotheses of the statements, clause by clause -/

/-- An element of `drive` rewritten. -/
def driveWith (e : Elem) (f : Element → Element) : State := drive.modifyElement e f

theorem witness_step : State.reset.pending = [] ∧ State.reset.clocks = [] ∧ State.reset.rst = false ∧
    (State.reset.withClocks [(1, true)]).clocks = (1, true) :: [] := by decide +kernel

/-- Halted and running units, one in each mode. -/
theorem witness_tick :
    (inState .halted 5 arena).Runs ∧ (inState .halted 5 arena).settled.clock.state = .halted ∧
    (∀ u ∈ [shot 3, ⟨.wave, 6, 3, .first, true, true, none⟩, ⟨.rate, 600, 3, .first, false, true, none⟩, strobe 3,
        ⟨.strobe, 100, 0, .first, true, true, none⟩],
      let s := driveWith 4 fun x => { x with pulse := u }
      s.Runs ∧ s.settled.clock.state ≠ .halted ∧ (s.settled.element 4).pulse = u ∧ u.run = true) := by
  refine ⟨?_, ?_, ?_⟩ <;> decide +kernel
/-- No wait at all and a full wait of 15 ms (R137), and the 10 ms of a field stop line (R142). -/
theorem witness_filter : (⟨true, none⟩ : SenseInput).pending = none ∧ 0 ≤ 0 ∧ 15 ≤ 15 ∧
    (⟨false, none⟩ : FieldStop).pending = none ∧ 10 ≤ 10 := by decide
theorem witness_nothing_due : let s := State.reset
    (∀ p, s.silenceDue p = false) ∧ (∀ r, s.benchDue r = false) ∧
    (∀ e, (s.element e).pulse.shotDue = false ∧ (s.element e).pulse.rateDue = false ∧
      (s.element e).pulse.waveDue = false ∧ (s.element e).pulse.strobeDue = false ∧ (s.element e).timer.due = false ∧
      (s.element e).s0.pending ≠ some 0 ∧ (s.element e).s1.pending ≠ some 0 ∧ (s.element e).feedDue = false ∧
      (s.element e).arrivalDue = false ∧ (s.element e).returnDue = false ∧ (s.element e).returnEnds = false) ∧
    (∀ g, (s.stop g).pending ≠ some 0 ∧ s.assertDue g = false ∧ s.releaseDue g = false) ∧
    s.autoDue = false ∧ s.breakDue = false ∧ s.thresholdDue = false ∧ s.finishDue = false ∧
    (after .rstActive s).rst = true := by decide +kernel
theorem witness_frame_complete : arena.role 4 ≠ .bridge ∧ arena.role 1 = .bridge ∧
    ((drive.modifyPort 1 fun x => { x with link := .stale }).port 1).link = .stale := by decide +kernel

/-- The four cases of a record due to a queue. -/
theorem witness_queue :
    let n : Notice := ⟨.score, some (.alliance 0), none, none, .drive, 5, some 3⟩
    let m : Notice := ⟨.phase, some .halt, none, none, .drive, 5, some 4⟩
    (∃ x ∈ [n], n.kind = .score ∧ x.kind = .score ∧ x.reason = n.reason) ∧
    (∀ x ∈ [m.overflow], ¬ (m.kind = .score ∧ x.kind = .score ∧ x.reason = m.reason)) ∧ m.overflow.kind = .overflow ∧
    (∀ x ∈ List.replicate 14 m, ¬ (m.kind = .score ∧ x.kind = .score ∧ x.reason = m.reason) ∧ x.kind ≠ .overflow) ∧
    (List.replicate 14 m).length ≤ 14 ∧
    (∀ x ∈ List.replicate 15 m, ¬ (m.kind = .score ∧ x.kind = .score ∧ x.reason = m.reason) ∧ x.kind ≠ .overflow) ∧
    15 ≤ (List.replicate 15 m).length := by decide +kernel
/-- An amount that leaves the published score and one that changes it. -/
theorem witness_amount : drive.published.get 0 = 0 ∧ drive.accumulators.get 0 = 0 := by decide +kernel
/-- A goal piece under AUTO, under CLAIM with a holder, as an orphan, and outside a live phase. -/
theorem witness_goal_piece :
    (let s := driveWith 1 fun x => { x with planDrive := ⟨.auto, none, none, none, some 5, some (.fixed 3), none, none, none⟩ }
     (s.element 1).header.kind = .goal ∧ s.clock.state.isLive = true ∧ (s.activeProfile 1).use = .auto ∧
     (s.activeProfile 1).credit = some (.fixed 3)) ∧
    (let s := holding 1 0
     (s.element 1).header.kind = .goal ∧ s.clock.state.isLive = true ∧ (s.activeProfile 1).use = .claim ∧
     (s.element 1).claim.state = .held 0 ∧ (s.robot 0).alliance = some 0) ∧
    (drive.element 1).claim.state.holder = none ∧ arena.clock.state.isLive = false ∧
    (arena.element 1).header.kind = .goal := by decide +kernel

/-- The end of AUTO into BREAK and into DRIVE, of BREAK, the threshold, and both natural finishes. -/
theorem witness_timed_phases :
    (let s := inState .auto 0 arena; s.Runs ∧ s.clock.state = .auto ∧ s.clock.remaining = 0 ∧ 0 < s.timing.breakS) ∧
    (let s := { inState .auto 0 arena with timing := { arena.timing with breakS := 0 } }
     s.Runs ∧ s.clock.state = .auto ∧ s.clock.remaining = 0 ∧ s.timing.breakS = 0) ∧
    (let s := inState .brk 0 arena; s.Runs ∧ s.clock.state = .brk ∧ s.clock.remaining = 0) ∧
    (let s := inState .drive 30000 arena
     s.Runs ∧ s.clock.state = .drive ∧ 0 < s.timing.endgameS ∧ s.clock.remaining = s.timing.endgameS * 1000) ∧
    (let s := inState .endgame 0 arena; s.Runs ∧ s.clock.remaining = 0 ∧ s.clock.state = .endgame) ∧
    (let s := { inState .drive 0 arena with timing := { arena.timing with endgameS := 0 } }
     s.Runs ∧ s.clock.remaining = 0 ∧ s.clock.state = .drive ∧ s.timing.endgameS = 0) := by decide +kernel
theorem witness_boundary : MatchState.isLive .auto = true ∧
    (⟨.brk, 5000, none, false, 7⟩ : Clock).state = .brk ∧ (⟨.finished, 0, none, false, 7⟩ : Clock).state = .finished := by
  decide
/-- The dispenser's feed at a boundary, clause by clause: no dispenser; not allowed, stopped and running; allowed, waiting for a
shot and not. -/
theorem witness_boundary_feeds :
    let w : (Element → Element) → Element := fun f =>
      ((((inState .auto 15000 arena).modifyElement 3 f).claimsAtBoundary).element 3)
    (arena.element 0).header.kind ≠ .dispenser ∧ (drive.activeProfile 3).use ≠ .auto ∧
    (drive.element 3).feed = .stopped ∧ ((drive.modifyElement 3 fun x => { x with feed := .held }).element 3).feed ≠ .stopped ∧
    ((inState .auto 15000 arena).activeProfile 3).use = .auto ∧
    (w id).claim.state.isBlocked = false ∧ (w id).feed = .stopped ∧ (w id).pulse.mode ≠ .shot ∧
    (w fun x => { x with pulse := shot 9 }).feed = .stopped ∧ (w fun x => { x with pulse := shot 9 }).pulse.mode = .shot := by
  decide +kernel
/-- Each clause of a boundary on a claim: into DRIVE, and into BREAK. -/
theorem witness_boundary_claims :
    (drive.clock.state.isLive = true ∧ ((drive.setClaim 0 ⟨.blocked .jam, some 1, []⟩).claim 0).state = .blocked .jam) ∧
    (((holding 2 2).claim 2).state = .held 2 ∧ (holding 2 2).mayUse ((holding 2 2).activeProfile 2) 2 = true) ∧
    (let s := (holding 2 2).modifyElement 2 fun x => { x with planDrive := { beaconUse with mask := some 3 } }
     (s.claim 2).state = .held 2 ∧ s.mayUse (s.activeProfile 2) 2 = false ∧ (s.element 2).header.kind ≠ .gate ∧
     0 < (s.activeProfile 2).cooldown.getD 0) ∧
    (let s := (holding 1 0).modifyElement 1 fun x => { x with planDrive := .closed }
     (s.claim 1).state = .held 0 ∧ (s.element 1).header.kind ≠ .gate ∧ (s.activeProfile 1).cooldown.getD 0 = 0 ∧
     (s.activeProfile 1).use ≠ .claim) ∧
    (let s := (holding 1 0).modifyElement 1 fun x => { x with planDrive := { goalUse with mask := some 6 } }
     (s.claim 1).state = .held 0 ∧ s.mayUse (s.activeProfile 1) 0 = false ∧ (s.activeProfile 1).cooldown.getD 0 = 0 ∧
     (s.activeProfile 1).use = .claim) ∧
    (let s := (moving .atOut .stopped).modifyElement 0 fun x => { x with planDrive := { gateUse with mask := some 1 } }
     (s.claim 0).state = .held 1 ∧ s.mayUse (s.activeProfile 0) 1 = false ∧ (s.element 0).header.kind = .gate) ∧
    ((returning 2 [1]).claim 2).state = .returning ∧ (drive.claim 2).state = .free ∧ (drive.claim 9).state = .inert := by
  decide +kernel
theorem witness_stop_claims :
    (let s := inState .brk 5000 (holding 1 0); s.clock.state = .brk ∧ (s.claim 1).state = .held 0 ∧
      (s.element 1).header.kind ≠ .gate) ∧
    (let s := inState .finished 0 (moving .movingBack (shot 9)); s.clock.state = .finished ∧ (s.claim 0).state = .held 1 ∧
      (s.element 0).header.kind = .gate ∧ (s.element 0).motion = .movingBack) ∧
    ((inState .brk 5000 (returning 2 [1])).claim 2).state = .returning ∧ (drive.claim 1).state = .free ∧
    (drive.claim 9).state = .inert ∧ ((drive.setClaim 0 ⟨.blocked .jam, some 1, []⟩).claim 0).state.isBlocked = true := by
  decide +kernel

/-- Robot 2's bench at 0, enabled after it in DRIVE and not in FINISHED. -/
theorem witness_bench :
    let s := drive.modifyRobot 2 fun x => { x with standing := .benched }
    s.Runs ∧ (s.robot 2).standing = .benched ∧ (s.robot 2).bench = 0 ∧ (s.robot 2).bound = some 3 ∧
    (s.port 3).link = .live ∧ s.clock.state.isLive = true ∧ (inState .finished 0 s).clock.state.isLive = false := by
  decide +kernel
/-- A state in which the silence timer of port 1 has run out. -/
def silent (s : State) : State := s.modifyPort 1 fun x => { x with silence := 0, silenceDue := true }
/-- Robot 0 of the silent port holds the gate AT_REST, robot 3 of the same port waits, and robot 1 is of another port. -/
theorem witness_silence : let s := silent (contested 0 0 3)
    s.Runs ∧ (s.port 1).silenceDue = true ∧ s.ClaimsOk ∧ (s.robot 3).bound = some 1 ∧ (s.robot 1).bound ≠ some 1 ∧
    (allRobots.filter fun r => (s.robot r).bound = some 1) = [0, 3] ∧
    (s.claim 0).state = .held 0 ∧ (s.claim 0).waiters[0]? = some 3 ∧ (s.element 0).header.kind = .gate ∧
    (s.element 0).motion = .atRest := by decide +kernel
/-- Robot 3 holds the beacon, its claim timer at 0, robot 1 of another port waits, and robot 0 has no place. -/
theorem witness_silence_beacon : let s := (silent (contested 2 3 1)).setTimer 2 ⟨true, 0⟩
    s.Runs ∧ (s.port 1).silenceDue = true ∧ s.ClaimsOk ∧ (s.claim 2).state = .held 3 ∧
    (s.element 2).header.kind ≠ .gate ∧ (s.activeProfile 2).cooldown = some 500 ∧ s.places 0 = 0 ∧
    (s.element 2).timer = ⟨true, 0⟩ := by decide +kernel
/-- Robots 3 and 0 of silent P1 wait on the beacon, the higher slot first: R72 takes robot 3 first, R53 robot 0, and by R72
the ROBOT notice of each still stands directly ahead of its DROPPED notice. -/
theorem witness_silence_orders : let s := silent (drive.setClaim 2 ⟨.held 1, none, [3, 0]⟩)
    s.Runs ∧ (s.port 1).silenceDue = true ∧ s.ClaimsOk ∧ s.boundTo 1 = [0, 3] ∧ s.agedOrder 1 = [3, 0] ∧
    ((s.silenceIn [3, 0] 1).port 1).queue.map (fun n => (n.kind, n.robot, n.value)) =
      [(.robot, some 3, some 0), (.dropped, some 3, some 1), (.robot, some 0, some 0), (.dropped, some 0, some 2)] := by
  decide +kernel
/-- No run reaches this state: robot 0 holds the gate UNKNOWN with both limits active, so that its return jams. -/
theorem witness_silence_jam : let s := (silent (contested 0 0 1)).modifyElement 0 fun x =>
      { x with motion := .unknown, s0 := ⟨true, none⟩, s1 := ⟨true, none⟩ }
    s.Runs ∧ (s.port 1).silenceDue = true ∧ s.ClaimsOk ∧ (s.element 0).bothLimits = true ∧
    (after (.silenceExpiry 1) s).claim 0 = ⟨.blocked .jam, some 0, []⟩ := by decide +kernel

/-- No holder, and holders of a gate, of a beacon with a cooldown and of a goal without one. -/
theorem witness_claim_end : Cause.expired ≠ .field ∧ Cause.expired ≠ .jam ∧ (drive.claim 0).state.holder = none ∧
    (((holding 0 1).claim 0).state = .held 1 ∧ ((holding 0 1).element 0).header.kind = .gate) ∧
    (((holding 2 2).claim 2).state = .held 2 ∧ ((holding 2 2).element 2).header.kind ≠ .gate ∧
      0 < ((holding 2 2).activeProfile 2).cooldown.getD 0) ∧
    (((holding 2 2).setTimer 2 ⟨true, 0⟩).element 2).timer = ⟨true, 0⟩ ∧ ((holding 2 2).element 2).timer ≠ ⟨true, 0⟩ ∧
    Cause.stale ≠ .expired ∧ Cause.stale ≠ .phase ∧ Cause.stale ≠ .field ∧ Cause.stale ≠ .jam ∧
    (((holding 1 0).claim 1).state = .held 0 ∧ ((holding 1 0).element 1).header.kind ≠ .gate ∧
      ((holding 1 0).activeProfile 1).cooldown.getD 0 = 0) := by decide +kernel
theorem witness_block : ((contested 0 1 3).claim 0).state = .held 1 ∧ (drive.claim 0).state = .free ∧
    (arena.claim 0).state = .inert ∧ ((returning 2 []).claim 2).state = .returning ∧
    ((drive.setClaim 0 ⟨.blocked .jam, some 1, []⟩).claim 0).state.isBlocked = true := by decide +kernel
theorem witness_roster_removes : (contested 0 1 3).ClaimsOk ∧ ((contested 0 1 3).claim 0).state = .held 1 ∧
    ((contested 0 1 3).claim 0).waiters[0]? = some 3 ∧ (contested 0 1 3).places 2 = 0 := by decide +kernel
theorem witness_precedence : (returning 2 []).nextHolder 2 = none ∧ (returning 2 [1, 2]).nextHolder 2 = some 2 := by
  decide +kernel
/-- A return's end with and without the use CLAIM, with no waiter and with two, and that of a gate. -/
theorem witness_return_end :
    (let s := (returning 1 []).modifyElement 1 fun x => { x with planDrive := .closed }
     s.Runs ∧ (s.claim 1).state = .returning ∧ (s.element 1).timer.running = false ∧ (s.activeProfile 1).use ≠ .claim) ∧
    (let s := returning 2 []
     s.Runs ∧ (s.claim 2).state = .returning ∧ (s.element 2).timer.running = false ∧ (s.activeProfile 2).use = .claim) ∧
    (let s := returning 0 [1, 2]
     s.Runs ∧ (s.claim 0).state = .returning ∧ (s.element 0).header.kind = .gate ∧ (s.element 0).motion = .atRest ∧
     (s.element 0).timer.running = false ∧ (s.activeProfile 0).use = .claim ∧ s.nextHolder 0 = some 2) ∧
    (let s := (returning 0 []).modifyElement 0 fun x => { x with motion := .movingBack, pulse := shot 9, s0 := ⟨true, none⟩ }
     s.Runs ∧ (s.claim 0).state = .returning ∧ (s.element 0).motion = .movingBack ∧ (s.element 0).senseActive .s0 = true) ∧
    (let s := (returning 2 [1]).setTimer 2 ⟨true, 0⟩
     s.Runs ∧ (s.claim 2).state = .returning ∧ (s.element 2).header.kind ≠ .gate ∧ (s.element 2).timer = ⟨true, 0⟩ ∧
     s.nextHolder 2 = some 1) := by decide +kernel
theorem witness_timer_and_shot :
    (((holding 2 2).setTimer 2 ⟨true, 0⟩).element 2).timer = ⟨true, 0⟩ ∧
    (((holding 2 2).setTimer 2 ⟨true, 0⟩).element 2).claim.state.holder.isSome = true ∧
    (((returning 2 []).setTimer 2 ⟨true, 0⟩).element 2).claim.state = .returning ∧
    (let x := (((returning 0 []).setTimer 0 ⟨true, 0⟩).modifyElement 0 fun x => { x with motion := .movingBack }).element 0
     x.timer = ⟨true, 0⟩ ∧ x.header.kind = .gate ∧ x.claim.state = .returning ∧ x.motion ≠ .atRest) ∧
    (((returning 0 []).setTimer 0 ⟨true, 0⟩).element 0).motion = .atRest ∧
    ((drive.setTimer 2 ⟨true, 0⟩).element 2).claim.state = .free ∧
    (let x := (moving .movingOut (shot 0)).element 0
     x.pulse.mode = .shot ∧ x.pulse.count = 0 ∧ x.test = none ∧ x.header.kind = .gate ∧ x.motion = .movingOut) ∧
    (let x := (driveWith 3 fun x => { x with pulse := shot 0, quotaMark := true }).element 3
     x.test = none ∧ x.header.kind = .dispenser ∧ x.quotaMark = true ∧ x.pulse.count = 0) ∧
    (let x := (driveWith 1 fun x => { x with pulse := shot 0 }).element 1
     x.header.kind ≠ .gate ∧ x.header.kind ≠ .dispenser ∧ x.pulse.mode = .shot ∧ x.pulse.count = 0) := by decide +kernel

/-- A credited interval, one with no holder, both halves of a WAVE, and a STROBE of a braking gate and of another element. -/
theorem witness_periodic :
    (let s := (holding 2 2).modifyElement 2 fun x => { x with pulse := ⟨.rate, 2000, 0, .first, false, true, none⟩ }
     s.Runs ∧ (s.element 2).pulse.mode = .rate ∧ (s.element 2).pulse.count = 0 ∧ (s.element 2).header.kind = .beacon ∧
     (s.element 2).claim.state = .held 2 ∧ (s.robot 2).alliance = some 2 ∧ s.clock.state.isLive = true) ∧
    (drive.element 2).claim.state.holder = none ∧
    (∀ u ∈ ([⟨.wave, 5, 0, .first, true, true, none⟩, ⟨.wave, 5, 0, .second, false, true, none⟩,
        ⟨.wave, 5, 0, .second, false, true, some (9, .wave)⟩] : List PulseUnit),
      ((driveWith 3 fun x => { x with pulse := u }).element 3).pulse = u ∧ u.mode = .wave ∧ u.count = 0) ∧
    (let x := (moving (.braking .back) (strobe 0)).element 0
     x.pulse.mode = .strobe ∧ x.pulse.count = 0 ∧ x.pulse.output = false ∧ x.header.kind = .gate ∧
     x.motion = .braking .back) ∧
    ((driveWith 4 fun x => { x with pulse := strobe 0 }).element 4).header.kind ≠ .gate := by decide +kernel
theorem witness_follow_ups :
    (let s := (inState .auto 9000 arena).modifyElement 3 fun x => { x with feedPending := true }
     s.Runs ∧ (s.element 3).header.kind = .dispenser ∧ (s.element 3).feedPending = true ∧ (s.element 3).pulse.mode ≠ .shot ∧
     (s.activeProfile 3).use = .auto ∧ (s.element 3).claim.state.isBlocked = false ∧ (s.element 3).senseActive .s1 = false) ∧
    ((driveWith 3 fun x => { x with s1 := ⟨true, none⟩ }).element 3).senseActive .s1 = true ∧
    (drive.activeProfile 3).use ≠ .auto ∧
    (let x := ((moving .movingOut (shot 9)).modifyElement 0 fun x => { x with s1 := ⟨true, none⟩ }).element 0
     x.header.kind = .gate ∧ x.motion = .movingOut ∧ x.senseActive .s1 = true) ∧
    (let x := ((moving .movingBack (shot 9)).modifyElement 0 fun x => { x with s0 := ⟨true, none⟩ }).element 0
     x.header.kind = .gate ∧ x.motion = .movingBack ∧ x.senseActive .s0 = true ∧ x.claim.state ≠ .returning) ∧
    (let x := ((returning 0 [1]).modifyElement 0 fun x => { x with motion := .movingBack, s0 := ⟨true, none⟩ }).element 0
     x.motion = .movingBack ∧ x.senseActive .s0 = true ∧ x.claim.state = .returning) := by decide +kernel
theorem witness_gate_motion :
    (let x := (driveWith 0 fun x => { x with s0 := ⟨true, none⟩, s1 := ⟨true, none⟩ }).element 0
     x.senseActive .s0 = true ∧ x.senseActive .s1 = true) ∧
    (let x := (driveWith 0 fun x => { x with s0 := ⟨true, none⟩ }).element 0
     x.senseActive .s0 = true ∧ x.senseActive .s1 = false) ∧
    (∀ m ∈ [Motion.atRest, .atOut, .unknown, .stopped, .movingBack, .movingOut, .braking .out, .braking .back],
      ((moving m .stopped).element 0).motion = m) := by decide +kernel

/-- A jam by both limits, pieces, a held and a continued feed, and a change that nothing takes. -/
theorem witness_sense :
    (let s := (driveWith 0 fun x => { x with s0 := ⟨true, none⟩, s1 := ⟨false, some 0⟩ })
     s.Runs ∧ ((s.element 0).sense .s1).pending = some 0 ∧ (s.element 0).motion = .atRest ∧
     (s.element 0).senseActive .s0 = true) ∧
    (∀ e ∈ ([1, 3] : List Elem), let x := (driveWith e fun x => { x with s0 := ⟨false, some 0⟩ }).element e
      (x.sense .s0).pending = some 0 ∧ x.header.s0.edge = .active ∧ x.senseActive .s0 = false) ∧
    (let x := (driveWith 3 fun x => { x with s1 := ⟨false, some 0⟩, feed := .running }).element 3
     (x.sense .s1).pending = some 0 ∧ x.feed = .running ∧ x.senseActive .s1 = false) ∧
    (let x := (driveWith 3 fun x => { x with s1 := ⟨true, some 0⟩, feed := .held }).element 3
     (x.sense .s1).pending = some 0 ∧ x.feed = .held ∧ x.senseActive .s1 = true) ∧
    (let x := (driveWith 2 fun x => { x with s1 := ⟨true, some 0⟩ }).element 2
     (x.sense .s1).pending = some 0 ∧ x.header.kind = .beacon) := by decide +kernel
theorem witness_field_stop : (drive.setStop 0 ⟨false, some 0⟩).Runs ∧
    (drive.setStop 0 ⟨false, some 0⟩).stop 0 = ⟨false, some 0⟩ ∧ (drive.element 0).header.group = 0 ∧
    (drive.element 9).header.group = 0 ∧ (drive.element 9).header.kind = .none ∧ (drive.element 2).header.group ≠ 0 ∧
    (drive.setStop 0 ⟨true, some 0⟩).stop 0 = ⟨true, some 0⟩ ∧
    (allElems.filter fun e => (drive.element e).header.group = 0 && (drive.element e).header.kind ≠ .none) = [0, 1] ∧
    (allElems.filter fun e => (drive.element e).header.group = 3 && (drive.element e).header.kind ≠ .none) = [] := by
  decide +kernel
theorem witness_lines : (inState .halted 5 arena).clock.state = .halted ∧ drive.clock.state ≠ .halted ∧
    drive.rst = false ∧ (drive.stop 0).asserted = false ∧ (drive.element 0).test = none ∧
    ((driveWith 4 fun x => { x with test := some .d1 }).element 4).test = some .d1 ∧
    ((moving .movingOut (shot 9))).driveActive 0 .d0 = true := by decide +kernel

/-! ## Witnesses of the statements about requests -/

/-- Every port of `drive` and `arena` takes a request in. -/
theorem witness_hears : (∀ p, drive.Hears p) ∧ arena.Hears 0 ∧
    ¬ (drive.setFrame 1 (.answering [0x00])).Hears 1 := by decide +kernel
/-- No frame, one begun, one in its last bit of a byte, and an answer of one byte shifted out to its last bit and past it. -/
theorem witness_frames : drive.Runs ∧ drive.Hears 1 ∧ requestRow 0x0A = none ∧
    (State.reset.port 1).frame.receiver = .idle ∧ (drive.port 1).frame.receiver = .code ∧
    (drive.port 1).frame.bits.length ≤ 6 ∧
    (let f := ((drive.setFrame 1 ⟨.arguments, [true, true, true, true, true, true], [0x20], [], 0⟩).port 1).frame
     f.receiver = .arguments ∧ f.bits.length ≤ 6) ∧
    (let f : Frame := ⟨.answer, [], [], [0x01], 7⟩; f.receiver = .answer ∧ f.answer[f.sent / 8]? = some 0x01) ∧
    (let f : Frame := ⟨.answer, [], [], [0x01], 8⟩; f.receiver = .answer ∧ f.answer.length ≤ f.sent / 8) ∧
    (∃ row, requestRow 0x50 = some row ∧ row.openTo (drive.role 1) = false) := by
  refine ⟨by decide +kernel, by decide +kernel, by decide, by decide +kernel, by decide +kernel, by decide +kernel,
    by decide +kernel, by decide, by decide, _, rfl, by decide +kernel⟩
/-- Numbers at the ends of the ranges of READ ROBOT, READ ELEMENT and READ NOTICE. -/
theorem witness_reads : (15#8).toNat = (15 : Robot).val ∧ 16 ≤ (16#8).toNat ∧ (23#8).toNat = (23 : Elem).val ∧
    24 ≤ (24#8).toNat ∧ 1 ≤ (1#8).toNat ∧ (16#8).toNat ≤ 16 ∧ (0#8).toNat = 0 ∧ 17 ≤ (17#8).toNat := by decide
theorem witness_snapshot : drive.Hears 4 ∧ ((drive.examined 4).port 4).snapshot = [] ∧
    (((drive.modifyPort 4 fun x => { x with snapshot := [⟨3, none⟩] }).examined 4).port 4).snapshot ≠ [] := by
  decide +kernel

/-- A CLAIM that passes every check on a FREE, a HELD and a RETURNING element, and one that finds the list full. -/
theorem witness_claim_passes :
    (∀ s ∈ [drive, contested 0 1 2, returning 0 [1], drive.setClaim 0 ⟨.returning, none, [1, 2, 4, 5]⟩],
      let u := s.examined 1
      s.Hears 1 ∧ s.role 1 = .bridge ∧ (u.robot 0).bound = some 1 ∧ u.clock.state.isLive = true ∧ u.enabled 0 = true ∧
      (u.activeProfile 0).use = .claim ∧ (u.robot 0).alliance = some 0 ∧
      ((u.activeProfile 0).mask.getD 0).getLsbD 0 = true ∧ u.heldBy 0 = none ∧ u.waitOf 0 = none) ∧
    ((drive.examined 1).claim 0).state = .free ∧
    (((contested 0 1 2).examined 1).claim 0).state.holder.isSome = true ∧
    (((contested 0 1 2).examined 1).claim 0).waiters.length ≤ 3 := by decide +kernel
/-- A RETURNING element whose return takes time, with a full list. -/
theorem witness_claim_list_full :
    let s := (drive.setClaim 2 ⟨.returning, none, [1, 3, 4, 5]⟩).setTimer 2 ⟨true, 9⟩
    let u := s.examined 3
    u.claim 2 = ⟨.returning, none, [1, 3, 4, 5]⟩ ∧ u.heldBy 2 = none ∧ u.waitOf 2 = none ∧ u.enabled 2 = true := by
  decide +kernel
/-- One state for each check of R62. -/
theorem witness_claim_checks :
    ((drive.examined 1).robot 1).bound ≠ some 1 ∧ (arena.examined 1).clock.state.isLive = false ∧
    (let u := (drive.modifyRobot 0 fun x => { x with standing := .out, strikes := 3 }).examined 1
     u.clock.state.isLive = true ∧ u.enabled 0 = false) ∧
    (let u := (drive.setClaim 0 ⟨.blocked .jam, none, []⟩).examined 1
     u.enabled 0 = true ∧ (u.claim 0).state.isBlocked = true) ∧
    (let u := drive.examined 1
     (u.claim 9).state.isBlocked = false ∧ (u.activeProfile 9).use ≠ .claim) ∧
    (let u := (holding 1 0).examined 1
     (u.claim 1).state = .held 0 ∧ u.enabled 0 = true ∧ (u.activeProfile 1).use = .claim ∧ (u.claim 0).state ≠ .held 0 ∧
     u.heldBy 0 ≠ none) ∧
    (let u := (contested 0 1 3).examined 1
     u.heldBy 3 = none ∧ u.waitOf 3 = some (0, 1) ∧ u.enabled 3 = true ∧ (u.activeProfile 0).use = .claim ∧
     (u.activeProfile 1).use = .claim) := by decide +kernel
theorem witness_release :
    (let s := contested 0 1 3
     let u := s.examined 2
     s.Hears 2 ∧ s.role 2 = .bridge ∧ (u.robot 1).bound = some 2 ∧ u.clock.state.isLive = true ∧
     (u.claim 0).state = .held 1 ∧ (u.claim 1).state ≠ .held 1 ∧ (u.robot 0).bound ≠ some 2) ∧
    ((inState .brk 5 arena).examined 2).clock.state = .brk ∧
    (let u := (contested 0 1 3).examined 1
     u.waitOf 3 = some (0, 1) ∧ u.waitOf 0 = none ∧ (u.robot 0).bound = some 1) ∧
    (((contested 0 1 3).examined 0).claim 0).state.holder.isSome = true ∧
    (((contested 0 1 3).examined 0).claim 1).state.holder = none := by decide +kernel
/-- MOVE OUT and MOVE BACK by the holder in each motion state. -/
theorem witness_move :
    (∀ m ∈ [Motion.atRest, .atOut, .unknown, .stopped, .movingBack, .movingOut, .braking .out],
      let s := moving m (match m with | .braking _ => strobe 9 | .movingBack => shot 9 | .movingOut => shot 9 | _ => .stopped)
      let u := s.examined 2
      s.Hears 2 ∧ s.role 2 = .bridge ∧ (u.robot 1).bound = some 2 ∧ u.clock.state.isLive = true ∧
      (u.element 0).header.kind = .gate ∧ (u.element 0).claim.state = .held 1 ∧ (u.element 0).motion = m) ∧
    ((drive.examined 2).element 1).header.kind ≠ .gate ∧ ((drive.examined 2).element 0).claim.state ≠ .held 1 := by
  decide +kernel
theorem witness_dispense :
    (let u := (holding 3 0).examined 1
     (u.robot 0).bound = some 1 ∧ u.clock.state.isLive = true ∧ (u.element 3).header.kind = .dispenser ∧
     (u.element 3).claim.state = .held 0 ∧ (u.element 3).senseActive .s1 = false ∧ (u.element 3).pulse.mode ≠ .shot) ∧
    (let u := ((holding 3 0).modifyElement 3 fun x => { x with s1 := ⟨true, none⟩ }).examined 1
     (u.element 3).claim.state = .held 0 ∧ (u.element 3).senseActive .s1 = true) ∧
    (let u := ((holding 3 0).modifyElement 3 fun x => { x with pulse := shot 7 }).examined 1
     (u.element 3).claim.state = .held 0 ∧ (u.element 3).pulse.mode = .shot) ∧
    ((drive.examined 1).element 3).claim.state ≠ .held 0 ∧ ((drive.examined 1).element 0).header.kind ≠ .dispenser := by
  decide +kernel

/-- SETUP and another match state; the ends of BIND's ranges. -/
theorem witness_setup_requests : arena.Hears 0 ∧ (arena.examined 0).clock.state = .setup ∧
    (drive.examined 0).clock.state ≠ .setup ∧ (arena.examined 0).role 4 ≠ .bridge ∧ (arena.examined 0).role 1 = .bridge ∧
    ((arena.examined 0).robot 9).bound = none ∧ ((arena.examined 0).robot 0).bound ≠ none ∧
    (15#8).toNat = (15 : Robot).val ∧ (5#8).toNat = (5 : Port).val ∧ (3#8).toNat = (3 : Alliance).val ∧
    6 ≤ (6#8).toNat ∧ 4 ≤ (4#8).toNat := by decide +kernel
/-- SET ELEMENT of E23 as a gate with the largest figures, under a field stop, and on a unit that runs. -/
theorem witness_set_element :
    (let u := arena.examined 0
     arena.Hears 0 ∧ u.clock.state = .setup ∧ (u.stop 0).asserted = false ∧ (u.stop 3).asserted = false ∧
     (u.element 23).pulse.mode = .idle ∧ headerOf ⟨1, 3, 0x2F, 0x9F, 3, 30000, 2000⟩ =
       some ⟨.gate, 3, ⟨false, 15, .any⟩, ⟨true, 15, .release⟩, true, true, some 30000, some 2000, none, none⟩) ∧
    headerOf ⟨1, 3, 0x2F, 0x9F, 3, 30001, 2000⟩ = none ∧ headerOf ⟨4, 3, 0x30, 0, 0, 0, 0⟩ = none ∧
    (((arena.setStop 0 ⟨true, none⟩).examined 0).stop 0).asserted = true ∧
    (((after (.lineTest 0 3 1 500) arena).examined 0).element 3).pulse.mode ≠ .idle := by decide +kernel
theorem witness_profiles : arena.Hears 0 ∧ (arena.examined 0).clock.state = .setup ∧
    (profileOf ((arena.examined 0).element 3).header.kind ⟨1, 7, 255, 10000, 0, 0, 0, 0, 15⟩).isSome = true ∧
    profileOf ((arena.examined 0).element 3).header.kind ⟨1, 7, 255, 10001, 0, 0, 0, 0, 15⟩ = none ∧
    (({ drive with stage := ⟨.opened, Stage.reset.entries⟩ }).examined 0).stage.state = .opened ∧
    (drive.examined 0).stage.state ≠ .opened ∧ (4#8) = byte LivePhase.drive.code := by decide +kernel
theorem witness_stage :
    (drive.examined 0).clock.state = .drive ∧ (drive.examined 0).stage.state = .empty ∧
    (arena.examined 0).clock.state = .setup ∧
    (({ drive with stage := ⟨.opened, Stage.reset.entries⟩ }).examined 0).stage.count = 0 ∧
    (let st := (({ drive with stage := ⟨.opened, Stage.reset.entries.set 1 (some goalUse)⟩ }).examined 0).stage
     st.state = .opened ∧ 1 ≤ st.count) := by decide +kernel
/-- LINE TEST in SETUP with the smallest and the largest width, and each check that fails. -/
theorem witness_line_test : arena.Hears 0 ∧ 10 ≤ (10#16).toNat ∧ (2000#16).toNat ≤ 2000 ∧ (9#16).toNat < 10 ∧
    2000 < (2001#16).toNat ∧ ((arena.examined 0).element 3).pulse.mode = .idle ∧
    (((arena.setStop 1 ⟨true, none⟩).examined 0).stop 1).asserted = true ∧
    (let u := (arena.modifyElement 0 fun x => { x with motion := .movingOut, pulse := shot 9 }).examined 0
     u.driveActive 0 .d0 = true ∧ (u.element 0).header.kind = .gate) ∧
    (((after (.lineTest 0 3 1 500) arena).examined 0).element 3).pulse.mode ≠ .idle := by decide +kernel
/-- A plan that passes, one whose first failing element is E1, lengths of 900 s and of 901 s, and no robot bound. -/
theorem witness_arm_plan : arena.Hears 0 ∧ (arena.examined 0).clock.state = .setup ∧
    (∀ e, ((arena.examined 0).element e).planFits = true) ∧ ((arena.examined 0).robot 0).bound ≠ none ∧
    (∀ e, ((State.reset.examined 0).element e).planFits = true) ∧
    (∀ r, ((State.reset.examined 0).robot r).bound = none) ∧
    (let u := (arena.modifyElement 1 fun x => { x with planAuto := { goalUse with use := .auto } }).examined 0
     (u.element 1).planFits = false ∧ (u.element 0).planFits = true) ∧
    (let t : Nat → Timing := fun n => ⟨300, 120, n, 30, 1, 1, 1, 500⟩
     ({ arena with timing := t 480 }.examined 0).timing = t 480 ∧ ({ arena with timing := t 481 }.examined 0).timing = t 481) ∧
    ((inState .armed 0 arena).examined 0).clock.state = .armed := by decide +kernel
/-- A gate that is driven home, one whose rest limit is active, one with both limits active, and one at rest. -/
theorem witness_arm_gates :
    (∀ c ∈ [(false, false), (true, false), (true, true)],
      let x := ((arena.modifyElement 0 fun x => { x with s0 := ⟨c.1, none⟩, s1 := ⟨c.2, none⟩ }).examined 0).element 0
      x.header.kind = .gate ∧ x.motion ≠ .atRest ∧ x.claim.state = .inert ∧ x.senseActive .s0 = c.1 ∧
      x.senseActive .s1 = c.2) ∧
    (((arena.modifyElement 0 fun x => { x with motion := .atRest }).examined 0).element 0).motion = .atRest ∧
    (∀ e, ((arena.examined 0).claim e).state.holder = none ∧ ((arena.examined 0).claim e).waiters = []) := by
  decide +kernel
theorem witness_start : ((inState .armed 0 arena).examined 0).clock.state = .armed ∧
    ((inState .armed 0 arena).examined 0).anyHoming = false ∧ 0 < ((inState .armed 0 arena).examined 0).timing.autoS ∧
    (({ inState .armed 0 arena with timing := { arena.timing with autoS := 0 } }).examined 0).timing.autoS = 0 ∧
    (((inState .armed 0 arena).modifyElement 0 fun x =>
      { x with motion := .movingBack, purpose := .home, pulse := shot 9 }).examined 0).anyHoming = true ∧
    (drive.examined 0).clock.state = .drive ∧ (arena.examined 0).clock.state = .setup := by decide +kernel
theorem witness_halt : (drive.examined 0).clock.state = Phase.drive.state ∧
    ((drive.setClock ⟨.halted, 7, some .drive, false, 7⟩).examined 0).clock = ⟨.halted, 7, some .drive, false, 7⟩ ∧
    ((inState .closed 0 arena).examined 0).clock.state = .closed := by decide +kernel
theorem witness_finalise : ((inState .finished 0 arena).examined 0).clock.state = .finished ∧
    ((inState .closed 0 arena).examined 0).clock.state = .closed ∧ (drive.examined 0).clock.state ≠ .finished := by
  decide +kernel
/-- PENALTY: a robot OUT, one with two strikes, one CLEAR, one BENCHED, and a bench of 0; ADJUST at both clamps. -/
theorem witness_penalty : drive.Hears 0 ∧ (drive.examined 0).clock.state = .drive ∧
    ((drive.examined 0).robot 2).bound ≠ none ∧ ((drive.examined 0).robot 2).alliance = some 2 ∧
    ((drive.examined 0).robot 2).standing = .clear ∧ ((drive.examined 0).robot 2).strikes ≤ 1 ∧
    ((drive.examined 0).robot 9).bound = none ∧
    (((drive.modifyRobot 2 fun x => { x with standing := .out, strikes := 3 }).examined 0).robot 2).standing = .out ∧
    (((drive.modifyRobot 2 fun x => { x with strikes := 2 }).examined 0).robot 2).strikes = 2 ∧
    (((drive.modifyRobot 2 fun x => { x with standing := .benched, strikes := 1, bench := 9 }).examined 0).robot 2).standing =
      .benched ∧ (1001#16).toInt = 1001 ∧ (0xFC17#16).toInt = -1001 := by decide +kernel
theorem witness_rearm :
    (∀ e ∈ ([0, 1, 3] : List Elem), let u := (drive.setClaim e ⟨.blocked .jam, none, []⟩).examined 0
      (u.stop (u.element e).header.group).asserted = false ∧ (u.element e).claim.state.isBlocked = true) ∧
    (let u := (((inState .auto 9 arena).setClaim 3 ⟨.blocked .field, none, []⟩)).examined 0
     (u.activeProfile 3).use = .auto ∧ (u.element 3).header.kind = .dispenser) ∧
    ((drive.examined 0).element 0).claim.state.isBlocked = false ∧
    (((drive.setStop 0 ⟨true, none⟩).examined 0).stop 0).asserted = true := by decide +kernel
theorem witness_tune : (arena.examined 0).clock.state = .setup ∧
    (∀ c ∈ ([(3, shot 9), (3, ⟨.wave, 3000, 9, .first, true, true, none⟩), (1, shot 9),
        (2, ⟨.rate, 2000, 9, .first, false, true, none⟩)] : List (Elem × PulseUnit)),
      let u := (driveWith c.1 fun x => { x with pulse := c.2 }).examined 0
      u.clock.state = .drive ∧ (u.element c.1).pulse = c.2) := by decide +kernel

/-! ## Witnesses of the statements about the whole machine -/

theorem witness_answered : encodeFrame (.claim 1 7 10) = some (1, 0x20 :: [7, 10]) ∧
    (Instr.claim 1 7 10).wellFormed = true ∧ drive.Hears 1 ∧
    (∃ row, requestRow 0x20 = some row ∧ row.openTo (drive.role 1) = true ∧ row.openTo (drive.role 4) = false) := by
  refine ⟨by decide, by decide, by decide +kernel, _, rfl, by decide +kernel, by decide +kernel⟩
theorem witness_frozen : (inState .closed 0 arena).clock.state = .closed ∧ drive.clock.state ≠ .setup ∧
    (after .rstActive drive).rst = true ∧ (∃ t, exec (.ping 1) (inState .closed 0 arena) = .next t) :=
  ⟨by decide +kernel, by decide +kernel, by decide +kernel, _, rfl⟩
theorem witness_frame_decodes : (Instr.claim 1 7 10).wellFormed = true ∧
    encodeFrame (.claim 1 7 10) = some (1, [0x20, 7, 10]) ∧
    (∃ row, requestRow 0x20 = some row ∧ row.openTo .bridge = true) ∧
    (∃ row, requestRow 0x20 = some row ∧ row.openTo .panel = false) ∧ drive.Hears 1 ∧ drive.role 1 = .bridge :=
  ⟨by decide, by decide, ⟨_, rfl, rfl⟩, ⟨_, rfl, rfl⟩, by decide +kernel, by decide +kernel⟩
/-- The arena in DRIVE, with a held element and a waiter, meets every law, and a step answers from it. -/
theorem witness_laws : (contested 0 1 3).TallyOk ∧ (contested 0 1 3).QueuesOk ∧ (contested 0 1 3).ClockOk ∧
    (contested 0 1 3).RosterOk ∧ (contested 0 1 3).ClaimsOk ∧ (contested 0 1 3).SeatsOk ∧ (contested 0 1 3).FieldStopOk := by
  refine ⟨?_, ?_, ?_, ?_, ?_, ?_, ?_⟩ <;> decide +kernel
theorem witness_units_law : (contested 0 1 3).UnitsOk := by
  intro e
  refine ⟨⟨?_, ?_, ?_, ?_, ?_, ?_, ?_, ?_, ?_, ?_, ?_, ?_⟩, ?_⟩
  all_goals revert e; decide +kernel
theorem witness_law_step : ∃ t, step ((contested 0 1 3).withPending [.tick 0 0b1111]) = .next t := ⟨_, rfl⟩

end Sys2Proof.Tests
end

namespace Sys2Proof.Machine

/-! # The two shapes of a command: events and requests -/

/-- When an event command is due, and what it does then. -/
def eventOf : Instr → Option ((State → Bool) × (State → State))
  | .autoExpiry => some (State.autoDue, State.autoExpiry)
  | .breakExpiry => some (State.breakDue, State.breakExpiry)
  | .endgameThreshold => some (State.thresholdDue, State.thresholdReached)
  | .naturalFinish => some (State.finishDue, State.naturalFinish)
  | .feedPendingStart e => some (fun s => (s.element e).feedDue, State.startPendingFeed e)
  | .benchExpiry r => some (fun s => s.benchDue r, State.benchExpiry r)
  | .silenceExpiry p => some (fun s => s.silenceDue p, State.silenceExpiry p)
  | .shotExpiry e => some (fun s => (s.element e).pulse.shotDue, State.shotExpiry e)
  | .rateExpiry e => some (fun s => (s.element e).pulse.rateDue, State.rateExpiry e)
  | .waveHalfChange e => some (fun s => (s.element e).pulse.waveDue, State.waveChange e)
  | .strobeExpiry e => some (fun s => (s.element e).pulse.strobeDue, State.strobeExpiry e)
  | .claimTimerExpiry e => some (fun s => (s.element e).timer.due, State.timerExpiry e)
  | .senseChangeAccepted e i => some (fun s => State.senseDue i s e, State.acceptSense e i)
  | .fieldStopAsserted g => some (fun s => s.assertDue g, State.assertStop g)
  | .fieldStopReleased g => some (fun s => s.releaseDue g, State.releaseStop g)
  | .gateArrival e => some (fun s => (s.element e).arrivalDue, State.takeArrival e)
  | .returnEnd e => some (fun s => (s.element e).returnEnds, State.takeReturnEnd e)
  | _ => none

/-- The body of a request that only reads. -/
def queryBody (answer : State → Answer) (s : State) : State × Answer := (s, answer s)

/-- The port, the code and the body of a request command. -/
def requestOf : Instr → Option (Port × Byte × (State → State × Answer))
  | .ping p => some (p, 0x01, queryBody (State.pingAnswer p))
  | .readClock p => some (p, 0x02, queryBody State.clockAnswer)
  | .readScores p => some (p, 0x03, queryBody State.scoresAnswer)
  | .readRobot p robot => some (p, 0x04, queryBody (State.robotAnswer robot))
  | .readElement p element => some (p, 0x05, queryBody (State.elementAnswer element))
  | .readNotice p count => some (p, 0x06, State.takeNotices p count)
  | .subscribe p mask => some (p, 0x07, State.storeMask p mask)
  | .snapshot p mask => some (p, 0x08, State.latchSnapshot p mask)
  | .readSnapshot p => some (p, 0x09, State.takeSnapshot p)
  | .claim p robot element => some (p, 0x20, State.claimRequest p robot element)
  | .release p robot element => some (p, 0x21, State.releaseRequest p robot element)
  | .withdraw p robot => some (p, 0x22, State.withdrawRequest p robot)
  | .move p robot element direction => some (p, 0x23, State.moveRequest p robot element direction)
  | .dispense p robot element => some (p, 0x24, State.dispenseRequest p robot element)
  | .setTiming p args => some (p, 0x40, State.timingRequest args)
  | .setElement p element args => some (p, 0x41, State.elementRequest element args)
  | .setProfile p element phase args => some (p, 0x42, State.profileRequest element phase args)
  | .bind p robot port alliance => some (p, 0x43, State.bindRequest robot port alliance)
  | .unbind p robot => some (p, 0x44, State.unbindRequest robot)
  | .lineTest p element line width => some (p, 0x45, State.testRequest element line width)
  | .arm p => some (p, 0x50, State.armRequest)
  | .disarm p => some (p, 0x51, State.disarmRequest)
  | .start p => some (p, 0x52, State.startRequest)
  | .halt p => some (p, 0x53, State.haltRequest)
  | .resume p => some (p, 0x54, State.resumeRequest)
  | .abort p => some (p, 0x55, State.abortRequest)
  | .finalise p => some (p, 0x56, State.finaliseRequest)
  | .newMatch p => some (p, 0x57, State.newMatchRequest)
  | .penalty p robot points bench => some (p, 0x60, State.penaltyRequest robot points bench)
  | .adjust p alliance amount => some (p, 0x61, State.adjustRequest alliance amount)
  | .free p element => some (p, 0x62, State.freeRequest element)
  | .rearm p element => some (p, 0x63, State.rearmRequest element)
  | .tune p element value => some (p, 0x64, State.tuneRequest element value)
  | .stageOpen p => some (p, 0x70, State.stageOpenRequest)
  | .stagePut p element args => some (p, 0x71, State.stagePutRequest element args)
  | .stageSeal p => some (p, 0x72, State.stageSealRequest)
  | .stageDiscard p => some (p, 0x73, State.stageDiscardRequest)
  | _ => none

/-- An event command runs its event. -/
theorem exec_of_eventOf {c : Instr} {due : State → Bool} {act : State → State} (h : eventOf c = some (due, act))
    (s : State) : exec c s = .next (s.event due act) := by
  cases c <;> cases h <;> rfl

/-- A request command runs its request. -/
theorem exec_of_requestOf {c : Instr} {p : Port} {code : Byte} {body : State → State × Answer}
    (h : requestOf c = some (p, code, body)) (s : State) : exec c s = .next (s.request p code body) := by
  cases c <;> cases h <;> rfl

/-- Every request command has its row in Table 9-7. -/
theorem requestRow_of_requestOf {c : Instr} {p : Port} {code : Byte} {body : State → State × Answer}
    (h : requestOf c = some (p, code, body)) : ∃ row, requestRow code = some row := by
  cases c <;> cases h <;> exact ⟨_, rfl⟩

/-- A request that is heard on a port to whose role it is open: the owner's answer on the examined state. -/
theorem exec_request_open {c : Instr} {p : Port} {code : Byte} {body : State → State × Answer}
    (h : requestOf c = some (p, code, body)) {row : RequestRow} (hrow : requestRow code = some row) {s : State}
    (hh : s.Hears p) (ho : row.openTo (s.role p) = true) {t : State} {a : Answer}
    (hb : body (s.examined p) = (t, a)) :
    exec c s = .next (t.answered p (a.status.code :: padded row.answer a.bytes)) := by
  rw [exec_of_requestOf h, State.request_open hrow hh (by rw [State.examined_role]; exact ho), hb]

/-- A frame without a request is answered on the examined state, or not at all. -/
theorem State.codeAnswered_cases (p : Port) (n : Nat) (a : Status) (s : State) :
    s.codeAnswered p n a = s ∨ ∃ bytes, s.codeAnswered p n a = (s.examined p).answered p bytes := by
  unfold State.codeAnswered
  split
  · exact .inl rfl
  · exact .inr ⟨_, rfl⟩

/-- The commands that are neither an event nor a request: reset, tick, frames without a request, select and RST. -/
theorem exec_other_cases {c : Instr} (he : eventOf c = none) (hq : requestOf c = none) (s : State) :
    exec c s = .next s ∨
    (∃ straps sense fs, c = .hardwareReset straps sense fs ∧
      exec c s = .next (.afterReset straps sense fs s.boundaries s.pending s.clocks)) ∨
    (∃ sense fs, c = .tick sense fs ∧ exec c s = .next (s.settled.count sense fs)) ∨
    (∃ p bytes, exec c s = .next ((s.examined p).answered p bytes)) ∨
    (∃ p f, exec c s = .next (s.setFrame p f)) ∨
    exec c s = .next { s with ports := rewriteAll (fun _ x => x.dropFrame) s.ports, rst := true } := by
  have answers : ∀ (p : Port) (n : Nat) (a : Status), exec c s = .next (s.codeAnswered p n a) →
      exec c s = .next s ∨ ∃ p bytes, exec c s = .next ((s.examined p).answered p bytes) := fun p n a h => by
    rcases s.codeAnswered_cases p n a with k | ⟨bytes, k⟩
    · exact .inl (h.trans (congrArg _ k))
    · exact .inr ⟨p, bytes, h.trans (congrArg _ k)⟩
  cases c with
  | hardwareReset straps sense fs => exact .inr (.inl ⟨straps, sense, fs, rfl, rfl⟩)
  | tick sense fs =>
    cases hr : s.rst with
    | true => exact .inl (by simp [exec, execTick, hr])
    | false => exact .inr (.inr (.inl ⟨sense, fs, rfl, by simp [exec, execTick, hr]⟩))
  | unknownAnswer p code =>
    cases hrow : requestRow code with
    | some row => exact .inl (by simp [exec, execUnknownAnswer, hrow])
    | none =>
      rcases answers p 0 .unknown (by simp [exec, execUnknownAnswer, hrow]) with h | h
      exacts [.inl h, .inr (.inr (.inr (.inl h)))]
  | roleAnswer p code =>
    cases hrow : requestRow code with
    | none => exact .inl (by simp [exec, execRoleAnswer, hrow])
    | some row =>
      cases ho : row.openTo (s.role p) with
      | true => exact .inl (by simp [exec, execRoleAnswer, hrow, ho])
      | false =>
        rcases answers p row.answer .role (by simp [exec, execRoleAnswer, hrow, ho]) with h | h
        exacts [.inl h, .inr (.inr (.inr (.inl h)))]
  | selectReleased p =>
    cases hr : s.rst with
    | true => exact .inl (by simp [exec, execSelectReleased, hr])
    | false =>
      exact .inr (.inr (.inr (.inr (.inl ⟨p, .idle, by simp only [exec, execSelectReleased, hr]; rfl⟩))))
  | selectActive p =>
    cases hr : s.rst with
    | true => exact .inl (by simp [exec, execSelectActive, hr])
    | false =>
      refine .inr (.inr (.inr (.inr (.inl ?_))))
      cases hf : (s.port p).frame.receiver with
      | idle => exact ⟨p, .begun, by simp [exec, execSelectActive, hr, State.setFrame, State.modifyPort, hf]⟩
      | _ => exact ⟨p, (s.port p).frame, by simp [exec, execSelectActive, hr, State.setFrame, State.modifyPort, hf]⟩
  | rstActive => exact .inr (.inr (.inr (.inr (.inr rfl))))
  | _ => cases he <;> cases hq

/-- A command has one outcome. -/
theorem exec_next_unique {c : Instr} {s t u : State} (h : exec c s = .next t) (k : exec c s = .next u) : t = u :=
  Host.Outcome.next.inj (h.symm.trans k)

/-- What a command can do: reset the part, tick, take an event that is due, run the body of a request on the examined
state and answer it, answer a frame without a request, write frame receivers and RST, or nothing. -/
theorem exec_cases {c : Instr} {s t : State} (h : exec c s = .next t) :
    t = s ∨
    (∃ straps sense fs, c = .hardwareReset straps sense fs ∧
      t = .afterReset straps sense fs s.boundaries s.pending s.clocks) ∨
    (∃ sense fs, c = .tick sense fs ∧ t = s.settled.count sense fs) ∨
    (∃ due act, eventOf c = some (due, act) ∧ due s = true ∧ t = act s) ∨
    (∃ p code body bytes, requestOf c = some (p, code, body) ∧ t = (body (s.examined p)).1.answered p bytes) ∨
    (∃ p bytes, t = (s.examined p).answered p bytes) ∨
    (∃ p f, t = s.setFrame p f) ∨
    t = { s with ports := rewriteAll (fun _ x => x.dropFrame) s.ports, rst := true } := by
  cases he : eventOf c with
  | some e =>
    obtain ⟨due, act⟩ := e
    have h' := exec_next_unique h (exec_of_eventOf he s)
    rcases s.event_cases due act with ⟨-, hd, k⟩ | k <;> rw [k] at h'
    · exact .inr (.inr (.inr (.inl ⟨due, act, rfl, hd, h'⟩)))
    · exact .inl h'
  | none =>
    cases hq : requestOf c with
    | some q =>
      obtain ⟨p, code, body⟩ := q
      obtain ⟨row, hrow⟩ := requestRow_of_requestOf hq
      have h' := exec_next_unique h (exec_of_requestOf hq s)
      rcases s.request_cases p code body hrow with k | k | k <;> rw [k] at h'
      · exact .inl h'
      · exact .inr (.inr (.inr (.inr (.inr (.inl ⟨p, _, h'⟩)))))
      · exact .inr (.inr (.inr (.inr (.inl ⟨p, code, body, _, rfl, h'⟩))))
    | none =>
      rcases exec_other_cases he hq s with k | ⟨a, b, d, hc, k⟩ | ⟨a, b, hc, k⟩ | ⟨p, bytes, k⟩ | ⟨p, f, k⟩ | k <;>
        have h' := exec_next_unique h k
      · exact .inl h'
      · exact .inr (.inl ⟨a, b, d, hc, h'⟩)
      · exact .inr (.inr (.inl ⟨a, b, hc, h'⟩))
      · exact .inr (.inr (.inr (.inr (.inr (.inl ⟨p, bytes, h'⟩)))))
      · exact .inr (.inr (.inr (.inr (.inr (.inr (.inl ⟨p, f, h'⟩))))))
      · exact .inr (.inr (.inr (.inr (.inr (.inr (.inr h'))))))

end Sys2Proof.Machine

namespace Sys2Proof.Machine

/-! # What every command but those of the plan and the phase clock keeps -/

/-- Phase clock, timing record, stage, headers, roles, RST and both queues are the same, and so are the scores in CLOSED
(R8, R24, R32, R156, R161): what every event but a transition, and every request but those of the plan, the stage and the
match, keeps. -/
structure State.Steady (s t : State) : Prop where
  clock : t.clock = s.clock
  timing : t.timing = s.timing
  stage : t.stage = s.stage
  strap : ∀ q, (t.port q).strap = (s.port q).strap
  headers : ∀ e, (t.element e).header = (s.element e).header
  rst : t.rst = s.rst
  pending : t.pending = s.pending
  clocks : t.clocks = s.clocks
  scores : s.clock.state = .closed → s.SameScores t

theorem State.Steady.refl (s : State) : s.Steady s :=
  ⟨rfl, rfl, rfl, fun _ => rfl, fun _ => rfl, rfl, rfl, rfl, fun _ => .refl s⟩
theorem State.Steady.trans {a b c : State} (h : a.Steady b) (k : b.Steady c) : a.Steady c :=
  ⟨k.clock.trans h.clock, k.timing.trans h.timing, k.stage.trans h.stage, fun q => (k.strap q).trans (h.strap q),
    fun e => (k.headers e).trans (h.headers e), k.rst.trans h.rst, k.pending.trans h.pending, k.clocks.trans h.clocks,
    fun hc => (h.scores hc).trans (k.scores (by rw [h.clock]; exact hc))⟩

/-! ## From the frames of the arbiter and the engines -/

/-- What arbiter and engines keep is steady, where the scores of a closed match are kept. -/
theorem State.Plays.steady {s t : State} (h : s.Plays t) (hs : s.clock.state = .closed → s.SameScores t) :
    s.Steady t :=
  ⟨h.same.clock, h.same.timing, h.same.stage, h.settles.strap, h.settles.headers, h.same.rst, h.same.pending,
    h.same.clocks, hs⟩
theorem State.Arbitrates.steady {s t : State} (h : s.Arbitrates t) : s.Steady t := h.plays.steady fun _ => h.scores

theorem State.forEach_steady {ι : Type} {xs : List ι} {act : ι → State → State}
    (h : ∀ i (s : State), s.Steady (act i s)) (s : State) : s.Steady (s.forEach xs act) :=
  State.forEach_rel State.Steady .refl .trans h s
theorem State.takeEach_steady {ι : Type} {xs : List ι} {due : State → ι → Bool} {act : ι → State → State}
    (h : ∀ i (s : State), s.Steady (act i s)) (s : State) : s.Steady (s.takeEach xs due act) := by
  refine State.forEach_steady (fun i s => ?_) s
  split
  · exact h i s
  · exact .refl s

/-! ## Single writes -/

theorem State.modifyElement_steady {e : Elem} {f : Element → Element} (s : State)
    (h : (f (s.element e)).header = (s.element e).header) : s.Steady (s.modifyElement e f) := by
  refine ⟨rfl, rfl, rfl, fun _ => rfl, fun e' => ?_, rfl, rfl, rfl, fun _ => ⟨rfl, rfl⟩⟩
  rw [State.element_modifyElement]
  split
  · rename_i he; subst he; exact h
  · rfl
theorem State.modifyPort_steady {p : Port} {f : PortRecord → PortRecord} (s : State)
    (h : (f (s.port p)).strap = (s.port p).strap) : s.Steady (s.modifyPort p f) := by
  refine ⟨rfl, rfl, rfl, fun q => ?_, fun _ => rfl, rfl, rfl, rfl, fun _ => ⟨rfl, rfl⟩⟩
  rw [State.port_modifyPort]
  split
  · rename_i hq; subst hq; exact h
  · rfl
theorem State.modifyRobot_steady (r : Robot) (f : RobotRecord → RobotRecord) (s : State) :
    s.Steady (s.modifyRobot r f) :=
  ⟨rfl, rfl, rfl, fun _ => rfl, fun _ => rfl, rfl, rfl, rfl, fun _ => ⟨rfl, rfl⟩⟩
theorem State.setRobot_steady (r : Robot) (x : RobotRecord) (s : State) : s.Steady (s.setRobot r x) :=
  ⟨rfl, rfl, rfl, fun _ => rfl, fun _ => rfl, rfl, rfl, rfl, fun _ => ⟨rfl, rfl⟩⟩
theorem State.setStop_steady (g : Group) (x : FieldStop) (s : State) : s.Steady (s.setStop g x) :=
  ⟨rfl, rfl, rfl, fun _ => rfl, fun _ => rfl, rfl, rfl, rfl, fun _ => ⟨rfl, rfl⟩⟩
theorem State.raise_steady (k : NoticeKind) (re : Option Reason) (r : Option Robot) (e : Option Elem) (v : Option Int)
    (s : State) : s.Steady (s.raise k re r e v) := (State.raise_arbitrates k re r e v s).steady
theorem State.answered_steady (p : Port) (bytes : List Byte) (s : State) : s.Steady (s.answered p bytes) :=
  State.modifyPort_steady s rfl
theorem State.setFrame_steady (p : Port) (f : Frame) (s : State) : s.Steady (s.setFrame p f) :=
  State.modifyPort_steady s rfl

/-! ## Credits (R149) -/

theorem not_live_of_closed {m : MatchState} (h : m = .closed) : m.isLive = false := by subst h; rfl
theorem not_scoring_of_closed {m : MatchState} (h : m = .closed) : m.scoring = false := by subst h; rfl

/-- Outside the live phases a counted piece is neither credited nor an orphan (R106). -/
theorem State.creditPiece_of_not_live {s : State} (h : s.clock.state.isLive = false) (e : Elem) :
    s.creditPiece e = s := by simp [State.creditPiece, h]
/-- Outside the live phases an interval held is not credited (R109). -/
theorem State.creditInterval_of_not_live {s : State} (h : s.clock.state.isLive = false) (e : Elem) :
    s.creditInterval e = s := by
  unfold State.creditInterval
  split
  · split
    · exact State.credit_of_not_live h _ _
    · rfl
  · rfl

/-- A counted piece changes no score in CLOSED (R106, R149). -/
theorem State.takePiece_scores {e : Elem} {s : State} (h : s.clock.state = .closed) : s.SameScores (s.takePiece e) := by
  have hl := not_live_of_closed h
  unfold State.takePiece
  split
  · exact ⟨rfl, rfl⟩
  · rw [State.creditPiece_of_not_live (by exact hl)]
    exact ⟨(State.lightLamp_arbitrates e _).scores.accumulators, (State.lightLamp_arbitrates e _).scores.published⟩
  all_goals exact .refl s
theorem State.takePiece_steady (e : Elem) (s : State) : s.Steady (s.takePiece e) :=
  (State.takePiece_plays e s).steady State.takePiece_scores
/-- An interval held changes no score in CLOSED (R109, R149). -/
theorem State.rateExpiry_scores {e : Elem} {s : State} (h : s.clock.state = .closed) :
    s.SameScores (s.rateExpiry e) := by
  unfold State.rateExpiry
  rw [State.creditInterval_of_not_live (by exact not_live_of_closed h)]
  exact ⟨rfl, rfl⟩
theorem State.rateExpiry_steady (e : Elem) (s : State) : s.Steady (s.rateExpiry e) :=
  (State.rateExpiry_plays e s).steady State.rateExpiry_scores
theorem State.takePulse_steady (e : Elem) (s : State) : s.Steady (s.takePulse e) := by
  unfold State.takePulse
  dsimp only
  repeat' split
  · exact (State.shotExpiry_arbitrates e s).steady
  · exact State.rateExpiry_steady e s
  · exact (State.waveChange_arbitrates e s).steady
  · exact (State.strobeExpiry_arbitrates e s).steady
  · exact .refl s

/-! ## Events of the roster and of the lines -/

theorem State.silenceIn_steady (order : List Robot) (p : Port) (s : State) : s.Steady (s.silenceIn order p) :=
  ((State.modifyPort_steady s rfl).trans (State.forEach_steady (fun r t =>
    ((State.raiseRobot_arbitrates .stale r t).trans (State.unseat_arbitrates r .stale _ s)).steady) _)).trans
    (State.forEach_steady (fun e s => (State.finishReturn_arbitrates e s).steady) _)
theorem State.silenceExpiry_steady (p : Port) (s : State) : s.Steady (s.silenceExpiry p) :=
  State.silenceIn_steady _ p s
theorem State.takeSilences_steady (s : State) : s.Steady s.takeSilences :=
  State.takeEach_steady State.silenceExpiry_steady s
theorem State.benchExpiry_steady (r : Robot) (s : State) : s.Steady (s.benchExpiry r) :=
  (State.modifyRobot_steady r _ s).trans (State.raiseRobot_arbitrates _ _ _).steady
theorem State.assertStop_steady (g : Group) (s : State) : s.Steady (s.assertStop g) :=
  ((State.setStop_steady g _ s).trans (State.raise_steady _ _ _ _ _ _)).trans
    (State.forEach_arbitrates State.stopElement_arbitrates _).steady
theorem State.releaseStop_steady (g : Group) (s : State) : s.Steady (s.releaseStop g) :=
  (State.setStop_steady g _ s).trans (State.raise_steady _ _ _ _ _ _)
theorem State.takeStop_steady (g : Group) (s : State) : s.Steady (s.takeStop g) := by
  unfold State.takeStop
  repeat' split
  · exact State.assertStop_steady g s
  · exact State.releaseStop_steady g s
  · exact .refl s
theorem Element.setSense_header (x : Element) (i : SenseId) (v : SenseInput) : (x.setSense i v).header = x.header := by
  cases i <;> rfl
theorem State.acceptSense_steady (i : SenseId) (e : Elem) (s : State) : s.Steady (s.acceptSense e i) := by
  refine (State.modifyElement_steady (e := e) (f := fun x => x.setSense i ⟨!(x.sense i).high, none⟩) s
    (Element.setSense_header _ _ _)).trans ?_
  unfold State.acceptSense
  dsimp only
  repeat' split
  all_goals first
    | exact (State.jam_arbitrates _ _).steady
    | exact State.takePiece_steady _ _
    | exact State.modifyElement_steady _ rfl
    | exact .refl _
theorem State.frameComplete_steady (p : Port) (s : State) : s.Steady (s.frameComplete p) := by
  unfold State.frameComplete
  dsimp only
  have h := State.modifyPort_steady (p := p)
    (f := fun x => { x with link := .live, silence := s.timing.silence, silenceDue := false }) s rfl
  split
  · split
    · exact h.trans (State.forEach_arbitrates (fun r s => State.raiseRobot_arbitrates _ r s) _).steady
    · exact h
  · exact .refl s

/-- Everything that a tick leaves outstanding but the phase clock's transition is steady. -/
theorem State.settled_eq_takePhase (s : State) : ∃ u, s.Steady u ∧ s.settled = u.takePhase :=
  ⟨_, (((((((((s.takeSilences_steady).trans (State.takeEach_steady State.benchExpiry_steady _)).trans
    (State.forEach_steady State.takePulse_steady _)).trans
    (State.takeEach_steady (fun e s => (State.timerExpiry_arbitrates e s).steady) _)).trans
    (State.takeEach_steady (State.acceptSense_steady .s0) _)).trans
    (State.takeEach_steady (State.acceptSense_steady .s1) _)).trans
    (State.forEach_steady State.takeStop_steady _)).trans
    (State.takeEach_steady (fun e s => (State.startPendingFeed_arbitrates e s).steady) _)).trans
    (State.takeEach_steady (fun e s => (State.takeArrival_arbitrates e s).steady) _)).trans
    (State.takeEach_steady (fun e s => (State.settleReturn_arbitrates e s).steady) _), rfl⟩

/-! ## Timed transitions (R14 to R16) -/

/-- The clock that a timed transition enters: it stands in for a running phase that it ends, its state has a boundary, and
its remaining time is the old one or the length of the phase entered. -/
structure State.Times (s : State) (c : Clock) : Prop where
  running : s.clock.state.isRunning = true
  enters : c.state.isLive = true ∨ c.state = .brk ∨ c.state = .finished
  rest : c = { s.clock with state := c.state, remaining := c.remaining }
  remaining : c.remaining = s.clock.remaining ∨ c.remaining = s.timing.breakS * 1000 ∨
    c.remaining = s.timing.driveS * 1000

/-- A timed transition: silence expiries are taken where they come first, and then the clock enters the next phase. -/
def State.PassesTo (s t : State) : Prop := ∃ u c, s.Steady u ∧ s.Times c ∧ t = u.enter .time c

theorem State.driveEntry_times {s : State} (h : s.clock.state.isRunning = true) : s.Times s.driveEntry := by
  refine ⟨h, .inl ?_, rfl, .inr (.inr rfl)⟩
  unfold State.driveEntry
  dsimp only
  split <;> rfl

theorem State.autoExpiry_passes {s : State} (h : s.autoDue = true) : s.PassesTo s.autoExpiry := by
  have hr : s.clock.state.isRunning = true := by
    simp only [State.autoDue, Bool.and_eq_true, decide_eq_true_eq] at h
    rw [h.1]; rfl
  have ht : s.Times s.afterAuto := by
    unfold State.afterAuto
    split
    · exact ⟨hr, .inr (.inl rfl), rfl, .inr (.inl rfl)⟩
    · exact State.driveEntry_times hr
  unfold State.autoExpiry
  dsimp only
  split
  · rename_i hl
    refine ⟨_, s.afterAuto, s.takeSilences_steady, ht, ?_⟩
    simp only [State.afterAuto, State.driveEntry, s.takeSilences_steady.timing, s.takeSilences_steady.clock]
  · exact ⟨_, _, .refl s, ht, rfl⟩
theorem State.breakExpiry_passes {s : State} (h : s.breakDue = true) : s.PassesTo s.breakExpiry := by
  simp only [State.breakDue, Bool.and_eq_true, decide_eq_true_eq] at h
  refine ⟨_, s.driveEntry, s.takeSilences_steady, State.driveEntry_times (by rw [h.1]; rfl), ?_⟩
  simp only [State.breakExpiry, State.driveEntry, s.takeSilences_steady.timing, s.takeSilences_steady.clock]
theorem State.thresholdReached_passes {s : State} (h : s.thresholdDue = true) : s.PassesTo s.thresholdReached := by
  simp only [State.thresholdDue, Bool.and_eq_true, decide_eq_true_eq] at h
  refine ⟨_, { s.clock with state := .endgame }, s.takeSilences_steady,
    ⟨by rw [h.1.1]; rfl, .inl rfl, rfl, .inl rfl⟩, ?_⟩
  simp only [State.thresholdReached, s.takeSilences_steady.clock]
theorem State.naturalFinish_passes {s : State} (h : s.finishDue = true) : s.PassesTo s.naturalFinish := by
  simp only [State.finishDue, Bool.and_eq_true, Bool.or_eq_true, decide_eq_true_eq] at h
  refine ⟨s, { s.clock with state := .finished }, .refl s, ⟨?_, .inr (.inr rfl), rfl, .inl rfl⟩, rfl⟩
  rcases h.2 with k | k
  · rw [k]; rfl
  · rw [k.1]; rfl

/-- The phase clock takes a timed transition, or none. -/
theorem State.takePhase_cases (s : State) : s.takePhase = s ∨ s.PassesTo s.takePhase := by
  unfold State.takePhase
  split
  · exact .inr (State.autoExpiry_passes ‹_›)
  · split
    · exact .inr (State.breakExpiry_passes ‹_›)
    · split
      · exact .inr (State.thresholdReached_passes ‹_›)
      · split
        · exact .inr (State.naturalFinish_passes ‹_›)
        · exact .inl rfl

/-- A timed transition after steady events is a timed transition. -/
theorem State.Steady.passes {s u t : State} (h : s.Steady u) (k : u.PassesTo t) : s.PassesTo t := by
  obtain ⟨v, c, hv, ⟨hr, he, hc, hm⟩, ht⟩ := k
  rw [h.clock] at hr hc hm
  rw [h.timing] at hm
  exact ⟨v, c, h.trans hv, ⟨hr, he, hc, hm⟩, ht⟩

/-- What a tick leaves outstanding is steady, or passes to the next phase. -/
theorem State.settled_cases (s : State) : s.Steady s.settled ∨ s.PassesTo s.settled := by
  obtain ⟨u, hu, h⟩ := s.settled_eq_takePhase
  rw [h]
  rcases u.takePhase_cases with k | k
  · rw [k]; exact .inl hu
  · exact .inr (hu.passes k)

/-- An event is steady, or a timed transition. -/
theorem eventOf_cases {c : Instr} {due : State → Bool} {act : State → State} (h : eventOf c = some (due, act)) (s : State)
    (hd : due s = true) : s.Steady (act s) ∨ s.PassesTo (act s) := by
  cases c <;> cases h
  case autoExpiry => exact .inr (State.autoExpiry_passes hd)
  case breakExpiry => exact .inr (State.breakExpiry_passes hd)
  case endgameThreshold => exact .inr (State.thresholdReached_passes hd)
  case naturalFinish => exact .inr (State.naturalFinish_passes hd)
  case feedPendingStart e => exact .inl (State.startPendingFeed_arbitrates e s).steady
  case benchExpiry r => exact .inl (State.benchExpiry_steady r s)
  case silenceExpiry p => exact .inl (State.silenceExpiry_steady p s)
  case shotExpiry e => exact .inl (State.shotExpiry_arbitrates e s).steady
  case rateExpiry e => exact .inl (State.rateExpiry_steady e s)
  case waveHalfChange e => exact .inl (State.waveChange_arbitrates e s).steady
  case strobeExpiry e => exact .inl (State.strobeExpiry_arbitrates e s).steady
  case claimTimerExpiry e => exact .inl (State.timerExpiry_arbitrates e s).steady
  case senseChangeAccepted e i => exact .inl (State.acceptSense_steady i e s)
  case fieldStopAsserted g => exact .inl (State.assertStop_steady g s)
  case fieldStopReleased g => exact .inl (State.releaseStop_steady g s)
  case gateArrival e => exact .inl (State.takeArrival_arbitrates e s).steady
  case returnEnd e => exact .inl (State.takeReturnEnd_arbitrates e s).steady

/-! ## Requests -/

theorem State.claimRequest_arbitrates (p : Port) (robot element : Byte) (s : State) :
    s.Arbitrates (s.claimRequest p robot element).1 := by
  unfold State.claimRequest State.grantClaim State.queueClaim
  dsimp only
  repeat' split
  all_goals first
    | exact .refl s
    | exact (State.makeHolder_arbitrates _ _ s).trans (State.tellGrant_arbitrates _ _)
    | exact State.setClaim_arbitrates _ _ s
theorem State.releaseRequest_arbitrates (p : Port) (robot element : Byte) (s : State) :
    s.Arbitrates (s.releaseRequest p robot element).1 := by
  unfold State.releaseRequest
  repeat' split
  all_goals first
    | exact .refl s
    | exact State.endClaim_arbitrates _ _ s
theorem State.withdrawRequest_arbitrates (p : Port) (robot : Byte) (s : State) :
    s.Arbitrates (s.withdrawRequest p robot).1 := by
  unfold State.withdrawRequest
  repeat' split
  all_goals first
    | exact .refl s
    | exact State.setClaim_arbitrates _ _ s
theorem State.moveGate_arbitrates (e : Elem) (d : Direction) (s : State) : s.Arbitrates (s.moveGate e d).1 := by
  unfold State.moveGate
  split
  all_goals first
    | exact .refl s
    | exact State.modifyElement_arbitrates s (Element.reverse_samePlan _ _ _)
    | exact State.startMotion_arbitrates _ _ _ s
theorem State.moveRequest_arbitrates (p : Port) (robot element direction : Byte) (s : State) :
    s.Arbitrates (s.moveRequest p robot element direction).1 := by
  unfold State.moveRequest
  repeat' split
  all_goals first
    | exact .refl s
    | exact State.moveGate_arbitrates _ _ s
theorem State.dispenseRequest_arbitrates (p : Port) (robot element : Byte) (s : State) :
    s.Arbitrates (s.dispenseRequest p robot element).1 := by
  unfold State.dispenseRequest
  dsimp only
  repeat' split
  all_goals first
    | exact .refl s
    | (dsimp only; exact State.modifyElement_arbitrates s ⟨rfl, rfl, rfl, rfl, rfl, rfl⟩)
theorem State.freeRequest_arbitrates (element : Byte) (s : State) : s.Arbitrates (s.freeRequest element).1 := by
  unfold State.freeRequest
  repeat' split
  all_goals first
    | exact .refl s
    | exact State.endClaim_arbitrates _ _ s
theorem State.rearmElement_arbitrates (e : Elem) (s : State) : s.Arbitrates (s.rearmElement e) := by
  have h := (((State.setClaimState_arbitrates e .returning s).trans
    (State.raise_arbitrates .element (some .rearmed) none (some e) none _)).trans
    (State.enterReturning_arbitrates e .stopped _)).trans (State.finishReturn_arbitrates e _)
  unfold State.rearmElement
  dsimp only
  split
  · exact h.trans (State.modifyElement_arbitrates _ (Element.openFeed_samePlan _ _))
  · exact h
theorem State.rearmRequest_arbitrates (element : Byte) (s : State) : s.Arbitrates (s.rearmRequest element).1 := by
  unfold State.rearmRequest
  repeat' split
  all_goals first
    | exact .refl s
    | exact State.rearmElement_arbitrates _ s
theorem State.tuneRequest_arbitrates (element : Byte) (value : Half) (s : State) :
    s.Arbitrates (s.tuneRequest element value).1 := by
  unfold State.tuneRequest
  dsimp only
  repeat' split
  all_goals first
    | exact .refl s
    | (dsimp only; exact State.modifyElement_arbitrates s ⟨rfl, rfl, rfl, rfl, rfl, rfl⟩)
theorem State.testRequest_arbitrates (element line : Byte) (width : Half) (s : State) :
    s.Arbitrates (s.testRequest element line width).1 := by
  unfold State.testRequest
  dsimp only
  repeat' split
  all_goals first
    | exact .refl s
    | (dsimp only; exact State.modifyElement_arbitrates s ⟨rfl, rfl, rfl, rfl, rfl, rfl⟩)
theorem State.takeNotices_steady (p : Port) (count : Byte) (s : State) : s.Steady (s.takeNotices p count).1 := by
  unfold State.takeNotices
  split
  · dsimp only; exact State.modifyPort_steady s rfl
  · exact .refl s
theorem State.latchSnapshot_steady (p : Port) (mask : BitVec 24) (s : State) :
    s.Steady (s.latchSnapshot p mask).1 := by
  unfold State.latchSnapshot
  repeat' split
  all_goals first
    | exact .refl s
    | (dsimp only; exact State.modifyPort_steady s rfl)
theorem State.profileRequest_steady (element phase : Byte) (args : ProfileArgs) (s : State) :
    s.Steady (s.profileRequest element phase args).1 := by
  unfold State.profileRequest
  repeat' split
  all_goals first
    | exact .refl s
    | (dsimp only; exact State.modifyElement_steady s (Element.setPlan_header _ _ _))
theorem State.bindRequest_steady (robot port alliance : Byte) (s : State) :
    s.Steady (s.bindRequest robot port alliance).1 := by
  unfold State.bindRequest
  repeat' split
  all_goals first
    | exact .refl s
    | (dsimp only; exact State.modifyRobot_steady _ _ s)
theorem State.unbindRequest_steady (robot : Byte) (s : State) : s.Steady (s.unbindRequest robot).1 := by
  unfold State.unbindRequest
  repeat' split
  all_goals first
    | exact .refl s
    | (dsimp only; exact State.modifyRobot_steady _ _ s)

/-- A tally operation is steady in every match state but CLOSED, in which none is made (R152, R156). -/
theorem State.addScore_steady {a : Alliance} {x : Int} {s : State} (h : s.clock.state.scoring = true) :
    s.Steady (s.addScore a x) :=
  (State.addScore_plays a x s).steady fun hc => by simp [not_scoring_of_closed hc] at h
theorem State.adjustRequest_steady (alliance : Byte) (amount : Half) (s : State) :
    s.Steady (s.adjustRequest alliance amount).1 := by
  unfold State.adjustRequest
  split
  · exact .refl s
  · split
    · exact State.addScore_steady (by simp_all)
    · exact .refl s
theorem State.tellStanding_arbitrates (r : Robot) (re : Reason) (s : State) : s.Arbitrates (s.tellStanding r re) := by
  unfold State.tellStanding
  split
  · exact State.removeRobot_arbitrates _ _ s
  · exact State.removeRobot_arbitrates _ _ s
  · exact .refl s
theorem State.penaltyPoints_steady {r : Robot} {points : Nat} {s : State} (h : s.clock.state.scoring = true) :
    s.Steady (s.penaltyPoints r points) := by
  unfold State.penaltyPoints
  split
  · exact State.addScore_steady h
  · exact .refl s
theorem State.penaltyRequest_steady (robot points bench : Byte) (s : State) :
    s.Steady (s.penaltyRequest robot points bench).1 := by
  unfold State.penaltyRequest
  split
  · exact .refl s
  · split
    · split
      · exact .refl s
      · rename_i r _ _
        have h : s.Steady (s.penaltyPoints r points.toNat) := State.penaltyPoints_steady (by simp_all)
        dsimp only
        split
        · exact h
        · exact ((h.trans (State.setRobot_steady _ _ _)).trans (State.raiseRobot_arbitrates _ _ _).steady).trans
            (State.tellStanding_arbitrates _ _ _).steady
    · exact .refl s

/-- The requests that write the plan, the stage or the phase clock. -/
def writesPlanOrClock : Instr → Bool
  | .setTiming .. | .setElement .. | .arm _ | .disarm _ | .start _ | .halt _ | .resume _ | .abort _ | .finalise _
  | .newMatch _ | .stageOpen _ | .stagePut .. | .stageSeal _ | .stageDiscard _ => true
  | _ => false

/-- Every other request is steady. -/
theorem requestOf_steady {c : Instr} {p : Port} {code : Byte} {body : State → State × Answer}
    (h : requestOf c = some (p, code, body)) (hc : writesPlanOrClock c = false) (s : State) :
    s.Steady (body s).1 := by
  cases c <;> cases h <;> cases hc
  case ping | readClock | readScores | readRobot | readElement => exact .refl s
  case readNotice => exact State.takeNotices_steady _ _ s
  case subscribe => dsimp only [State.storeMask]; exact State.modifyPort_steady s rfl
  case snapshot => exact State.latchSnapshot_steady _ _ s
  case readSnapshot => dsimp only [State.takeSnapshot]; exact State.modifyPort_steady s rfl
  case claim => exact (State.claimRequest_arbitrates _ _ _ s).steady
  case release => exact (State.releaseRequest_arbitrates _ _ _ s).steady
  case withdraw => exact (State.withdrawRequest_arbitrates _ _ s).steady
  case move => exact (State.moveRequest_arbitrates _ _ _ _ s).steady
  case dispense => exact (State.dispenseRequest_arbitrates _ _ _ s).steady
  case setProfile => exact State.profileRequest_steady _ _ _ s
  case bind => exact State.bindRequest_steady _ _ _ s
  case unbind => exact State.unbindRequest_steady _ s
  case lineTest => exact (State.testRequest_arbitrates _ _ _ s).steady
  case penalty => exact State.penaltyRequest_steady _ _ _ s
  case adjust => exact State.adjustRequest_steady _ _ s
  case free => exact (State.freeRequest_arbitrates _ s).steady
  case rearm => exact (State.rearmRequest_arbitrates _ s).steady
  case tune => exact (State.tuneRequest_arbitrates _ _ s).steady

end Sys2Proof.Machine

namespace Sys2Proof.Machine

/-! # A transition with its boundary: clock and stage -/

/-- The state in which roster and arbiter take the boundary of a transition: the PHASE notice handed, the stage applied or
voided, snapshot entries voided and the silence timers reloaded (R5, R7, R31, R37, R40, R55, R183). -/
def State.prepared (reason : Reason) (c : Clock) (s : State) : State :=
  let t := (s.transition reason c).stageAtBoundary.voidChanged s
  if c.state.isLive then t.reloadSilence else t

theorem MatchState.live_isSome (m : MatchState) : m.live.isSome = m.isLive := by cases m <;> rfl
/-- The live phase of a match state is the one with that state. -/
theorem MatchState.live_eq_some {m : MatchState} {ph : LivePhase} : m.live = some ph ↔ ph.state = m := by
  cases m <;> cases ph <;> simp [MatchState.live, MatchState.phase, Phase.live, LivePhase.state]

/-- Rewriting elements one after the other changes the elements alone. -/
theorem State.forEach_modifyElement_eq {ι : Type} (xs : List ι) (at_ : ι → Elem) (f : ι → Element → Element)
    (s : State) : s.forEach xs (fun i s => s.modifyElement (at_ i) (f i)) =
      { s with elements := (s.forEach xs fun i s => s.modifyElement (at_ i) (f i)).elements } := by
  refine State.forEach_keeps (fun t => t = { s with elements := t.elements }) (fun i _ t ht => ?_) rfl
  rw [ht]
  rfl

/-- The application of a stage changes stage, elements and ports alone (R37). -/
theorem State.applyStage_eq (ph : LivePhase) (s : State) : s.applyStage ph =
    { s with stage := (s.applyStage ph).stage, elements := (s.applyStage ph).elements,
             ports := (s.applyStage ph).ports } := by
  unfold State.applyStage
  split
  · dsimp only
    rw [State.forEach_modifyElement_eq]
    rfl
  all_goals rfl
/-- The voiding of a stage changes stage and ports alone (R40). -/
theorem State.voidStage_eq (s : State) :
    s.voidStage = { s with stage := s.voidStage.stage, ports := s.voidStage.ports } := by
  unfold State.voidStage
  split <;> rfl
/-- The plan store at a boundary changes stage, elements and ports alone. -/
theorem State.stageAtBoundary_eq (s : State) : s.stageAtBoundary =
    { s with stage := s.stageAtBoundary.stage, elements := s.stageAtBoundary.elements,
             ports := s.stageAtBoundary.ports } := by
  unfold State.stageAtBoundary
  split
  · exact State.applyStage_eq _ s
  · split
    · conv_lhs => rw [State.voidStage_eq]
      have h : s.voidStage.elements = s.elements := by rw [State.voidStage_eq]
      rw [h]
    · rfl

/-- A stage is gone after a boundary that applies it or voids it, and stays as it is at any other (R37, R38, R40). -/
theorem State.stageAtBoundary_stage (s : State) : s.stageAtBoundary.stage =
    if (s.stage.state = .sealed ∧ s.clock.state.isLive = true) ∨
        (s.stage.state ≠ .empty ∧ s.clock.state = .finished) then .reset else s.stage := by
  unfold State.stageAtBoundary
  cases hl : s.clock.state.live with
  | some ph =>
    have hp := MatchState.live_eq_some.mp hl
    have hlive : s.clock.state.isLive = true := by rw [← MatchState.live_isSome, hl]; rfl
    have hf : s.clock.state ≠ .finished := by rw [← hp]; cases ph <;> simp [LivePhase.state]
    cases hs : s.stage.state <;> simp [State.applyStage, hs, hlive, hf, State.raise, State.hand]
  | none =>
    have hlive : s.clock.state.isLive = false := by rw [← MatchState.live_isSome, hl]; rfl
    by_cases hf : s.clock.state = .finished
    · cases hs : s.stage.state <;> simp [State.voidStage, hs, hf, State.raise, State.hand]
    · simp [hf, hlive]

/-- The voiding of snapshot entries changes the ports alone (R183). -/
theorem State.voidSnapshots_eq (e : Elem) (s : State) :
    s.voidSnapshots e = { s with ports := (s.voidSnapshots e).ports } := rfl
theorem State.voidChanged_eq (s before : State) :
    s.voidChanged before = { s with ports := (s.voidChanged before).ports } := by
  refine State.forEach_keeps (fun t => t = { s with ports := t.ports }) (fun e _ t ht => ?_) rfl
  split
  · exact ht
  · rw [ht]; rfl

/-- The prepared state differs from the one before in clock, stage, elements and ports alone. -/
theorem State.prepared_eq (reason : Reason) (c : Clock) (s : State) : s.prepared reason c =
    { s with clock := c, stage := (s.transition reason c).stageAtBoundary.stage,
             elements := (s.transition reason c).stageAtBoundary.elements,
             ports := (s.prepared reason c).ports } := by
  have hv := State.voidChanged_eq (s.transition reason c).stageAtBoundary s
  have hu := State.stageAtBoundary_eq (s.transition reason c)
  unfold State.prepared
  generalize (s.transition reason c).stageAtBoundary.voidChanged s = v at hv ⊢
  generalize (s.transition reason c).stageAtBoundary = u at hv hu ⊢
  dsimp only
  split <;> rw [hv, hu] <;> rfl
@[simp] theorem State.prepared_clock (reason : Reason) (c : Clock) (s : State) : (s.prepared reason c).clock = c := by
  rw [State.prepared_eq]

/-- A transition with its boundary, cut where roster and arbiter take it. -/
theorem State.enter_eq (reason : Reason) (c : Clock) (s : State) : s.enter reason c =
    ((s.prepared reason c).rosterAndArbiter s).forEach allElems State.feedAtBoundary := by
  have h : ((s.transition reason c).stageAtBoundary.voidChanged s).clock = c := by
    rw [State.voidChanged_eq, State.stageAtBoundary_eq]
    rfl
  unfold State.enter State.boundary State.prepared
  dsimp only
  rw [h]

/-- What roster, arbiter and feeds keep of the prepared state: everything that the arbiter keeps, but for the model's
counter. -/
theorem State.enter_arbitrates (reason : Reason) (c : Clock) (s : State) :
    { s.prepared reason c with boundaries := (s.prepared reason c).boundaries + 1 }.Arbitrates (s.enter reason c) := by
  rw [State.enter_eq]
  exact (State.rosterAndArbiter_plays _ s).trans (State.forEach_arbitrates State.feedAtBoundary_arbitrates _)

@[simp] theorem State.enter_clock (reason : Reason) (c : Clock) (s : State) : (s.enter reason c).clock = c :=
  (State.enter_arbitrates reason c s).plays.same.clock.trans (s.prepared_clock reason c)
@[simp] theorem State.enter_timing (reason : Reason) (c : Clock) (s : State) :
    (s.enter reason c).timing = s.timing := (State.enter_settles reason c s).timing
/-- The stage after a transition with its boundary (R37, R38, R40). -/
theorem State.enter_stage (reason : Reason) (c : Clock) (s : State) : (s.enter reason c).stage =
    if (s.stage.state = .sealed ∧ c.state.isLive = true) ∨ (s.stage.state ≠ .empty ∧ c.state = .finished)
      then .reset else s.stage := by
  have h : (s.enter reason c).stage = (s.prepared reason c).stage :=
    (State.enter_arbitrates reason c s).plays.same.stage
  rw [h, State.prepared_eq]
  exact State.stageAtBoundary_stage _

/-! # Ranges of clock, timing record and stage (R3, R8, R19, R32) -/

/-- The ranges of `State.ClockOk` as a property of timing record, clock and stage, with a name for each. -/
structure InRanges (timing : Timing) (clock : Clock) (stage : Stage) : Prop where
  record : timing.Ok
  remaining : clock.remaining ≤ 900000
  halted : clock.haltedFrom.isSome = true ↔ clock.state = .halted
  aborted : clock.aborted = true → clock.state = .finished ∨ clock.state = .closed
  idle : clock.state = .setup ∨ clock.state = .armed → clock.remaining = 0
  inPlay : clock.state = .setup → clock.inPlay = 0
  opens : stage.state ≠ .empty → clock.state.stageOpens = true
  empty : stage.state = .empty → stage.count = 0
  sealed : stage.state = .sealed → 0 < stage.count

theorem State.clockOk_iff {s : State} : s.ClockOk ↔ InRanges s.timing s.clock s.stage :=
  ⟨fun ⟨a, b, c, d, e, f, g, h, i⟩ => ⟨a, b, c, d, e, f, g, h, i⟩,
    fun ⟨a, b, c, d, e, f, g, h, i⟩ => ⟨a, b, c, d, e, f, g, h, i⟩⟩

/-- The ranges of a state are those of its timing record, clock and stage. -/
theorem InRanges.clockOk {s : State} {timing : Timing} {clock : Clock} {stage : Stage}
    (h : InRanges timing clock stage) (ht : s.timing = timing) (hc : s.clock = clock) (hs : s.stage = stage) :
    s.ClockOk := State.clockOk_iff.mpr (by rw [ht, hc, hs]; exact h)
theorem State.Steady.clockOk {s t : State} (k : s.Steady t) (h : s.ClockOk) : t.ClockOk :=
  (State.clockOk_iff.mp h).clockOk k.timing k.clock k.stage

theorem Stage.reset_count : Stage.reset.count = 0 := by decide

/-- Match states with a boundary are no state before the match, not HALTED, and open to a stage but for FINISHED. -/
theorem MatchState.of_boundary {m : MatchState} (h : m.isLive = true ∨ m = .brk ∨ m = .finished) :
    m ≠ .setup ∧ m ≠ .armed ∧ m ≠ .halted ∧ (m ≠ .finished → m.stageOpens = true) := by
  cases m <;> simp [MatchState.isLive, MatchState.stageOpens] at *
theorem MatchState.of_running {m : MatchState} (h : m.isRunning = true) :
    m ≠ .setup ∧ m ≠ .armed ∧ m ≠ .halted ∧ m ≠ .finished ∧ m ≠ .closed ∧ m.stageOpens = true := by
  cases m <;> simp [MatchState.isRunning, MatchState.stageOpens] at *

section
variable {timing : Timing} {clock : Clock} {stage : Stage} (h : InRanges timing clock stage)
include h

/-- Outside HALTED there is no halted-from phase. -/
theorem InRanges.haltedFrom_none (hm : clock.state ≠ .halted) : clock.haltedFrom = none := by
  rw [← Option.not_isSome_iff_eq_none, h.halted]
  exact hm
/-- Before the end of the match there is no aborted mark. -/
theorem InRanges.not_aborted (hf : clock.state ≠ .finished) (hc : clock.state ≠ .closed) : clock.aborted = false := by
  rw [Bool.eq_false_iff]
  exact fun k => (h.aborted k).elim hf hc
/-- Where no stage may be open the stage is empty. -/
theorem InRanges.stage_empty (hm : clock.state.stageOpens = false) : stage.state = .empty := by
  by_contra k
  exact absurd (h.opens k) (by simp [hm])

/-- The ranges at a boundary (R37, R38, R40), for a clock with a remaining time in range, no halted-from phase, and the
aborted mark in FINISHED alone. -/
theorem InRanges.boundary {c : Clock} (hm : c.state.isLive = true ∨ c.state = .brk ∨ c.state = .finished)
    (hr : c.remaining ≤ 900000) (hh : c.haltedFrom = none) (ha : c.aborted = true → c.state = .finished) :
    InRanges timing c (if (stage.state = .sealed ∧ c.state.isLive = true) ∨
      (stage.state ≠ .empty ∧ c.state = .finished) then .reset else stage) := by
  obtain ⟨hsetup, harmed, hhalted, hopens⟩ := MatchState.of_boundary hm
  refine ⟨h.record, hr, by simp [hh, hhalted], fun k => .inl (ha k), fun k => absurd k (by simp [hsetup, harmed]),
    fun k => absurd k hsetup, ?_, ?_, ?_⟩
  all_goals split
  · exact fun k => absurd rfl k
  · rename_i hk
    exact fun hs => hopens fun hf => hk (.inr ⟨hs, hf⟩)
  · exact fun _ => Stage.reset_count
  · exact h.empty
  · exact fun k => by cases k
  · exact h.sealed

/-- The remaining time falls in a running match alone (R4). -/
theorem InRanges.counted (hrun : clock.state.isRunning = true) :
    InRanges timing { clock with remaining := clock.remaining - 1 } stage := by
  obtain ⟨hsetup, harmed, -⟩ := MatchState.of_running hrun
  exact ⟨h.record, (Nat.sub_le _ _).trans h.remaining, h.halted, h.aborted, fun k => absurd k (by simp [hsetup, harmed]),
    h.inPlay, h.opens, h.empty, h.sealed⟩

/-- ARM (R11). -/
theorem InRanges.armed (hm : clock.state = .setup) (inPlay : AllianceSet) :
    InRanges timing { clock with state := .armed, inPlay := inPlay } stage where
  record := h.record
  remaining := h.remaining
  halted := by simp [h.haltedFrom_none (by simp [hm])]
  aborted := fun k => by
    dsimp only at k
    rw [h.not_aborted (by simp [hm]) (by simp [hm])] at k
    exact absurd k (by simp)
  idle := fun _ => h.idle (.inl hm)
  inPlay := fun k => by simp at k
  opens := fun _ => rfl
  empty := h.empty
  sealed := h.sealed

/-- DISARM (R12), where the stage is voided (R40). -/
theorem InRanges.disarmed (hm : clock.state = .armed) :
    InRanges timing { clock with state := .setup, inPlay := 0 }
      (if stage.state = .empty then stage else .reset) := by
  refine ⟨h.record, h.remaining, by simp [h.haltedFrom_none (by simp [hm])], fun k => ?_, fun _ => h.idle (.inr hm),
    fun _ => rfl, ?_, ?_, ?_⟩
  · dsimp only at k
    rw [h.not_aborted (by simp [hm]) (by simp [hm])] at k
    exact absurd k (by simp)
  all_goals split
  · exact fun k => absurd ‹_› k
  · exact fun k => absurd rfl k
  · exact h.empty
  · exact fun _ => Stage.reset_count
  · exact h.sealed
  · exact fun k => by cases k

/-- HALT in a timed phase (R17). -/
theorem InRanges.haltedIn {ph : Phase} (hm : clock.state.isRunning = true) :
    InRanges timing { clock with state := .halted, haltedFrom := some ph } stage where
  record := h.record
  remaining := h.remaining
  halted := by simp
  aborted := fun k => by
    obtain ⟨-, -, -, hfinished, hclosed, -⟩ := MatchState.of_running hm
    dsimp only at k
    rw [h.not_aborted hfinished hclosed] at k
    exact absurd k (by simp)
  idle := fun k => by simp at k
  inPlay := fun k => by simp at k
  opens := fun _ => rfl
  empty := h.empty
  sealed := h.sealed

/-- RESUME into a timed phase (R18). -/
theorem InRanges.resumed {m : MatchState} (hm : clock.state = .halted) (hrun : m.isRunning = true) :
    InRanges timing { clock with state := m, haltedFrom := none } stage := by
  obtain ⟨hsetup, harmed, hhalted, -, -, hopens⟩ := MatchState.of_running hrun
  refine ⟨h.record, h.remaining, by simp [hhalted], fun k => ?_, fun k => absurd k (by simp [hsetup, harmed]),
    fun k => absurd k hsetup, fun _ => hopens, h.empty, h.sealed⟩
  dsimp only at k
  rw [h.not_aborted (by simp [hm]) (by simp [hm])] at k
  exact absurd k (by simp)

/-- FINALISE (R20). -/
theorem InRanges.finalised (hm : clock.state = .finished) :
    InRanges timing { clock with state := .closed } stage where
  record := h.record
  remaining := h.remaining
  halted := by simp [h.haltedFrom_none (by simp [hm])]
  aborted := fun _ => .inr rfl
  idle := fun k => by simp at k
  inPlay := fun k => by simp at k
  opens := fun k => absurd (h.stage_empty (by rw [hm]; rfl)) k
  empty := h.empty
  sealed := h.sealed

/-- NEW MATCH, where no stage is open (R21). -/
theorem InRanges.fresh (hm : clock.state.stageOpens = false) : InRanges timing ⟨.setup, 0, none, false, 0⟩ stage where
  record := h.record
  remaining := Nat.zero_le _
  halted := by simp
  aborted := fun k => by simp at k
  idle := fun _ => rfl
  inPlay := fun _ => rfl
  opens := fun k => absurd (h.stage_empty hm) k
  empty := h.empty
  sealed := h.sealed

/-- Another stage, open in this match state, that holds an entry where it is SEALED and none where it is EMPTY. -/
theorem InRanges.staged {st : Stage} (hopens : st.state ≠ .empty → clock.state.stageOpens = true)
    (hempty : st.state = .empty → st.count = 0) (hsealed : st.state = .sealed → 0 < st.count) :
    InRanges timing clock st :=
  ⟨h.record, h.remaining, h.halted, h.aborted, h.idle, h.inPlay, hopens, hempty, hsealed⟩

/-- Another timing record in range. -/
theorem InRanges.timed {t : Timing} (ht : t.Ok) : InRanges t clock stage :=
  ⟨ht, h.remaining, h.halted, h.aborted, h.idle, h.inPlay, h.opens, h.empty, h.sealed⟩

end

/-! ## Ticks and transitions -/

/-- A boundary keeps the ranges where the clock entered has its remaining time in range, no halted-from phase, and the
aborted mark in FINISHED alone. -/
theorem State.ClockOk.enter {s : State} (h : s.ClockOk) {reason : Reason} {c : Clock}
    (hm : c.state.isLive = true ∨ c.state = .brk ∨ c.state = .finished) (hr : c.remaining ≤ 900000)
    (hh : c.haltedFrom = none) (ha : c.aborted = true → c.state = .finished) : (s.enter reason c).ClockOk :=
  ((State.clockOk_iff.mp h).boundary hm hr hh ha).clockOk (s.enter_timing reason c) (s.enter_clock reason c)
    (s.enter_stage reason c)

/-- A timed transition keeps the ranges. -/
theorem State.ClockOk.passes {s t : State} (h : s.ClockOk) (k : s.PassesTo t) : t.ClockOk := by
  obtain ⟨u, c, hu, ⟨hrun, hm, hc, hr⟩, ht⟩ := k
  have hok := State.clockOk_iff.mp h
  obtain ⟨-, -, hhalted, hfinished, hclosed, -⟩ := MatchState.of_running hrun
  have hf : c.haltedFrom = s.clock.haltedFrom := by rw [hc]
  have ha : c.aborted = s.clock.aborted := by rw [hc]
  rw [ht]
  refine (hu.clockOk h).enter hm ?_ (hf.trans (hok.haltedFrom_none hhalted)) fun k => ?_
  · obtain ⟨-, hbreak, -, hdrive, -⟩ := hok.record
    have := hok.remaining
    omega
  · rw [ha, hok.not_aborted hfinished hclosed] at k
    exact absurd k (by simp)

/-- What a tick leaves outstanding keeps the ranges. -/
theorem State.ClockOk.settled {s : State} (h : s.ClockOk) : s.settled.ClockOk :=
  s.settled_cases.elim (·.clockOk h) h.passes
theorem State.ClockOk.examined {s : State} (h : s.ClockOk) (p : Port) : (s.examined p).ClockOk :=
  (State.frameComplete_steady p _).clockOk h.settled

/-- The clock after the counting of a tick (R4). -/
theorem State.count_clock (sense : BitVec 48) (fs : BitVec 4) (s : State) : (s.count sense fs).clock =
    if s.clock.state.isRunning = true then { s.clock with remaining := s.clock.remaining - 1 } else s.clock := rfl

/-- The counting of a tick keeps the ranges. -/
theorem State.ClockOk.count {s : State} (h : s.ClockOk) (sense : BitVec 48) (fs : BitVec 4) :
    (s.count sense fs).ClockOk := by
  refine InRanges.clockOk ?_ rfl (State.count_clock sense fs s) rfl
  split
  · exact (State.clockOk_iff.mp h).counted ‹_›
  · exact State.clockOk_iff.mp h

/-- The record that SET TIMING stores is in range (R9, Table 1-4). -/
theorem timingOf_ok (a : TimingArgs) : (timingOf a).Ok := by
  simp only [Timing.Ok, timingOf, clampHalf, clampNat]
  omega

/-- The state after reset is in range (R3, R8, R23). -/
theorem State.afterReset_clockOk (straps : BitVec 5) (sense : BitVec 48) (fs : BitVec 4) (n : Nat) (q : List Instr)
    (cs : List (Port × Bool)) : (State.afterReset straps sense fs n q cs).ClockOk := by
  refine InRanges.clockOk (timing := .reset) (clock := ⟨.setup, 0, none, false, 0⟩) (stage := .reset) ?_ rfl rfl rfl
  exact ⟨by decide, Nat.zero_le _, by simp, fun k => by simp at k, fun _ => rfl, fun _ => rfl, fun k => absurd rfl k,
    fun _ => Stage.reset_count, fun k => by cases k⟩

end Sys2Proof.Machine

namespace Sys2Proof.Machine

/-! ## Requests of the plan, the stage and the match -/

/-- The plan store after the disarm event: the stage is voided, nothing else of clock, timing record and stage changes. -/
theorem State.disarmEvent_arbitrates (s : State) : s.voidStage.Arbitrates s.disarmEvent :=
  State.forEach_arbitrates (fun _ s => State.modifyElement_arbitrates s (by
    unfold Element.stopHoming
    split
    · exact Element.halted_samePlan _
    · exact .refl _)) _
theorem State.armEvent_arbitrates (s : State) : s.Arbitrates s.armEvent :=
  (State.forEach_arbitrates (fun _ s => State.modifyElement_arbitrates s (Element.endTest_samePlan _)) s).trans
    (State.forEach_arbitrates State.homeGate_arbitrates _)
/-- The stage after it is voided (R40). -/
theorem State.voidStage_stage (s : State) : s.voidStage.stage = if s.stage.state = .empty then s.stage else .reset := by
  unfold State.voidStage
  cases hs : s.stage.state <;> simp [State.raise, State.hand]

/-- The ranges after a transition without a boundary are those of the clock entered. -/
theorem State.transition_clockOk {s : State} {c : Clock} (reason : Reason) (h : InRanges s.timing c s.stage) :
    (s.transition reason c).ClockOk := h.clockOk rfl rfl rfl

/-- The match state of a timed phase is running, and its own phase. -/
theorem MatchState.phase_eq_some {m : MatchState} {ph : Phase} : m.phase = some ph ↔ m = ph.state := by
  cases m <;> cases ph <;> simp [MatchState.phase, Phase.state]
theorem Phase.state_isRunning (ph : Phase) : ph.state.isRunning = true := by cases ph <;> rfl

section
variable {s : State} (h : s.ClockOk)
include h

theorem State.ClockOk.timingRequest (a : TimingArgs) : (s.timingRequest a).1.ClockOk := by
  unfold State.timingRequest
  split
  · exact ((State.clockOk_iff.mp h).timed (timingOf_ok a)).clockOk rfl rfl rfl
  · exact h
theorem State.ClockOk.elementRequest (e : Byte) (a : HeaderArgs) : (s.elementRequest e a).1.ClockOk := by
  unfold State.elementRequest
  dsimp only
  repeat' split
  all_goals exact (State.clockOk_iff.mp h).clockOk rfl rfl rfl
theorem State.ClockOk.armRequest : s.armRequest.1.ClockOk := by
  unfold State.armRequest
  split
  · exact h
  · rename_i hm
    split
    · exact h
    · split
      · exact h
      · dsimp only
        exact (State.armEvent_arbitrates _).steady.clockOk
          (State.transition_clockOk _ ((State.clockOk_iff.mp h).armed (not_not.mp hm) _))
theorem State.ClockOk.disarmRequest : s.disarmRequest.1.ClockOk := by
  unfold State.disarmRequest
  split
  · exact h
  · rename_i hm
    refine (State.disarmEvent_arbitrates _).steady.clockOk
      (((State.clockOk_iff.mp h).disarmed (not_not.mp hm)).clockOk ?_ ?_ (State.voidStage_stage _))
    all_goals rw [State.voidStage_eq]; rfl
theorem State.ClockOk.startRequest : s.startRequest.1.ClockOk := by
  unfold State.startRequest
  split
  · exact h
  · rename_i hm
    have hm : s.clock.state = .armed := not_not.mp hm
    have hok := State.clockOk_iff.mp h
    have hf := hok.haltedFrom_none (by simp [hm])
    have ha := hok.not_aborted (by simp [hm]) (by simp [hm])
    obtain ⟨hauto, -, -, hdrive, -⟩ := hok.record
    split
    · exact h
    · dsimp only
      unfold State.afterStart State.driveEntry
      split
      · exact h.enter (.inl rfl) (by dsimp only; omega) hf (by simp [ha])
      · refine h.enter (.inl ?_) (by dsimp only; omega) hf (by simp [ha])
        dsimp only
        split <;> rfl
theorem State.ClockOk.abortRequest : s.abortRequest.1.ClockOk := by
  unfold State.abortRequest
  split
  · dsimp only
    exact h.enter (.inr (.inr rfl)) (State.clockOk_iff.mp h).remaining rfl fun _ => rfl
  · exact h
theorem State.ClockOk.haltRequest : s.haltRequest.1.ClockOk := by
  unfold State.haltRequest
  split
  · rename_i ph hph
    have hrun : s.clock.state.isRunning = true := MatchState.phase_eq_some.mp hph ▸ ph.state_isRunning
    dsimp only
    exact (State.announceEnables_arbitrates _ _).steady.clockOk
      (State.transition_clockOk _ ((State.clockOk_iff.mp h).haltedIn hrun))
  · split <;> exact h
theorem State.ClockOk.resumeRequest : s.resumeRequest.1.ClockOk := by
  unfold State.resumeRequest
  split
  · rename_i ph hm _
    dsimp only
    exact (State.announceEnables_arbitrates _ _).steady.clockOk
      (State.transition_clockOk _ ((State.clockOk_iff.mp h).resumed hm ph.state_isRunning))
  · exact h
theorem State.ClockOk.finaliseRequest : s.finaliseRequest.1.ClockOk := by
  unfold State.finaliseRequest
  split
  · rename_i hm
    dsimp only
    exact State.transition_clockOk _ ((State.clockOk_iff.mp h).finalised hm)
  · exact h
theorem State.ClockOk.newMatchRequest : s.newMatchRequest.1.ClockOk := by
  unfold State.newMatchRequest
  split
  · rename_i hm
    refine ((State.clockOk_iff.mp h).fresh ?_).clockOk rfl rfl rfl
    simp only [Bool.or_eq_true, decide_eq_true_eq] at hm
    rcases hm with k | k <;> rw [k] <;> rfl
  · exact h
theorem State.ClockOk.stageOpenRequest : s.stageOpenRequest.1.ClockOk := by
  unfold State.stageOpenRequest
  split
  · exact h
  · rename_i hm
    split
    · refine InRanges.clockOk ((State.clockOk_iff.mp h).staged (st := ⟨.opened, Stage.reset.entries⟩) (fun _ => by simpa using hm)
        (fun k => by cases k) fun k => by cases k) rfl rfl rfl
    all_goals exact h
theorem State.ClockOk.stagePutRequest (e : Byte) (a : ProfileArgs) : (s.stagePutRequest e a).1.ClockOk := by
  have hok := State.clockOk_iff.mp h
  unfold State.stagePutRequest
  split
  · exact h
  · exact h
  · rename_i hst
    split
    · rename_i e _
      split
      · rename_i pr _
        exact InRanges.clockOk (hok.staged (st := s.stage.put e pr) (fun _ => hok.opens (by simp [hst]))
          (fun k => by simp [Stage.put, hst] at k) fun k => by simp [Stage.put, hst] at k) rfl rfl rfl
      · exact h
    · exact h
theorem State.ClockOk.stageSealRequest : s.stageSealRequest.1.ClockOk := by
  have hok := State.clockOk_iff.mp h
  unfold State.stageSealRequest
  split
  · exact h
  · exact h
  · rename_i hst
    split
    · exact h
    · rename_i hn
      exact InRanges.clockOk (hok.staged (st := { s.stage with state := .sealed }) (fun _ => hok.opens (by simp [hst]))
        (fun k => by cases k) fun _ => Nat.pos_of_ne_zero hn) rfl rfl rfl
theorem State.ClockOk.stageDiscardRequest : s.stageDiscardRequest.1.ClockOk := by
  unfold State.stageDiscardRequest
  split
  · exact h
  all_goals exact InRanges.clockOk ((State.clockOk_iff.mp h).staged (st := .reset) (fun k => absurd rfl k)
    (fun _ => Stage.reset_count) fun k => by cases k) rfl rfl rfl

/-- A request that writes the plan, the stage or the phase clock keeps the ranges. -/
theorem State.ClockOk.writingRequest {c : Instr} {p : Port} {code : Byte} {body : State → State × Answer}
    (hq : requestOf c = some (p, code, body)) (hw : writesPlanOrClock c = true) : (body s).1.ClockOk := by
  cases c <;> cases hw <;> cases hq
  case setTiming => exact h.timingRequest _
  case setElement => exact h.elementRequest _ _
  case arm => exact h.armRequest
  case disarm => exact h.disarmRequest
  case start => exact h.startRequest
  case halt => exact h.haltRequest
  case resume => exact h.resumeRequest
  case abort => exact h.abortRequest
  case finalise => exact h.finaliseRequest
  case newMatch => exact h.newMatchRequest
  case stageOpen => exact h.stageOpenRequest
  case stagePut => exact h.stagePutRequest _ _
  case stageSeal => exact h.stageSealRequest
  case stageDiscard => exact h.stageDiscardRequest
/-- Every request keeps the ranges. -/
theorem State.ClockOk.request {c : Instr} {p : Port} {code : Byte} {body : State → State × Answer}
    (hq : requestOf c = some (p, code, body)) : (body s).1.ClockOk := by
  cases hw : writesPlanOrClock c with
  | true => exact h.writingRequest hq hw
  | false => exact (requestOf_steady hq hw s).clockOk h

end

/-! ## Every step keeps the ranges -/

/-- Every command keeps the ranges. -/
theorem State.ClockOk.exec {c : Instr} {s t : State} (h : s.ClockOk) (he : exec c s = .next t) : t.ClockOk := by
  rcases exec_cases he with k | ⟨straps, sense, fs, -, k⟩ | ⟨sense, fs, -, k⟩ | ⟨due, act, hc, hd, k⟩ |
    ⟨p, code, body, bytes, hc, k⟩ | ⟨p, bytes, k⟩ | ⟨p, f, k⟩ | k <;> rw [k]
  · exact h
  · exact State.afterReset_clockOk _ _ _ _ _ _
  · exact h.settled.count sense fs
  · exact (eventOf_cases hc s hd).elim (·.clockOk h) h.passes
  · exact (State.answered_steady p bytes _).clockOk ((h.examined p).request hc)
  · exact (State.answered_steady p bytes _).clockOk (h.examined p)
  · exact (State.setFrame_steady p f s).clockOk h
  · exact (State.clockOk_iff.mp h).clockOk rfl rfl rfl

/-- A step keeps what every command keeps, where writing queues and frame receivers keeps it too. -/
theorem step_keeps {P : State → Prop} (queue : ∀ q s, P s → P (s.withPending q)) (wait : ∀ q s, P s → P (s.withClocks q))
    (frame : ∀ p f s, P s → P (s.setFrame p f)) (command : ∀ c s t, P s → exec c s = .next t → P t) {s t : State}
    (h : P s) (hs : step s = .next t) : P t := by
  rcases step_cases s with ⟨c, rest, -, k⟩ | ⟨p, high, rest, -, -, k⟩ | ⟨-, -, k⟩
  · exact command c _ t (queue rest s h) (k.symm.trans hs)
  · have hw := wait rest s h
    have hs := k.symm.trans hs
    rcases (s.withClocks rest).serialClock_cases p high with k | ⟨f, k⟩ | ⟨c, -, k⟩
    · exact Host.Outcome.next.inj (k.symm.trans hs) ▸ hw
    · exact Host.Outcome.next.inj (k.symm.trans hs) ▸ frame p f _ hw
    · exact command c _ t (frame p .begun _ hw) (k.symm.trans hs)
  · exact Host.Outcome.next.inj (k.symm.trans hs) ▸ h

/-- Settles O56: every command keeps the ranges, and so does a step. -/
theorem stepKeepsClockTimingAndStage : Obligations.StepKeepsClockTimingAndStage := fun _ _ h hs =>
  step_keeps (P := State.ClockOk) (fun _ _ h => h) (fun _ _ h => h)
    (fun p f s h => (State.setFrame_steady p f s).clockOk h) (fun _ _ _ h he => h.exec he) h hs

end Sys2Proof.Machine

namespace Sys2Proof.Machine

/-! # What is frozen (R8, R24, R25, R156, R161) -/

/-- Outside SETUP the timing record and every header are the same, and always roles, RST and both queues. -/
structure State.KeepsSettings (s t : State) : Prop where
  record : s.clock.state ≠ .setup → t.timing = s.timing ∧ ∀ e, (t.element e).header = (s.element e).header
  strap : ∀ q, (t.port q).strap = (s.port q).strap
  rst : t.rst = s.rst
  pending : t.pending = s.pending
  clocks : t.clocks = s.clocks

theorem State.Settles.keepsSettings {s t : State} (h : s.Settles t) : s.KeepsSettings t :=
  ⟨fun _ => ⟨h.timing, h.headers⟩, h.strap, h.rst, h.pending, h.clocks⟩
theorem State.Steady.keepsSettings {s t : State} (h : s.Steady t) : s.KeepsSettings t :=
  ⟨fun _ => ⟨h.timing, h.headers⟩, h.strap, h.rst, h.pending, h.clocks⟩
/-- Two changes one after the other, of which the first does not enter SETUP. -/
theorem State.KeepsSettings.trans {a b c : State} (h : a.KeepsSettings b)
    (hm : b.clock.state = .setup → a.clock.state = .setup) (k : b.KeepsSettings c) : a.KeepsSettings c := by
  refine ⟨fun hs => ?_, fun q => (k.strap q).trans (h.strap q), k.rst.trans h.rst, k.pending.trans h.pending,
    k.clocks.trans h.clocks⟩
  obtain ⟨ht, he⟩ := h.record hs
  obtain ⟨ht', he'⟩ := k.record fun hb => hs (hm hb)
  exact ⟨ht'.trans ht, fun e => (he' e).trans (he e)⟩

/-- A timed transition changes no setting, and does not enter SETUP. -/
theorem State.PassesTo.keepsSettings {s t : State} (h : s.PassesTo t) : s.KeepsSettings t ∧ t.clock.state ≠ .setup := by
  obtain ⟨u, c, hu, ht, k⟩ := h
  rw [k, State.enter_clock]
  refine ⟨hu.keepsSettings.trans (fun hb => ?_) (State.enter_settles _ _ _).keepsSettings,
    (MatchState.of_boundary ht.enters).1⟩
  rw [← hu.clock]
  exact hb
/-- The taking of what a tick left changes no setting, and does not enter SETUP. -/
theorem State.settled_keepsSettings (s : State) :
    s.KeepsSettings s.settled ∧ (s.settled.clock.state = .setup → s.clock.state = .setup) := by
  rcases s.settled_cases with h | h
  · exact ⟨h.keepsSettings, fun k => by rw [← h.clock]; exact k⟩
  · exact ⟨h.keepsSettings.1, fun k => absurd k h.keepsSettings.2⟩
theorem State.examined_keepsSettings (p : Port) (s : State) :
    s.KeepsSettings (s.examined p) ∧ ((s.examined p).clock.state = .setup → s.clock.state = .setup) := by
  have h := State.frameComplete_steady p s.settled
  obtain ⟨hk, hm⟩ := s.settled_keepsSettings
  exact ⟨hk.trans hm h.keepsSettings, fun k => hm (by rw [← h.clock]; exact k)⟩

/-! ## Requests that write the plan, the stage or the phase clock -/

/-- Where the match state is SETUP, the settings that a write may change are free. -/
theorem State.keepsSettings_of_setup {s t : State} (hm : s.clock.state = .setup)
    (strap : ∀ q, (t.port q).strap = (s.port q).strap) (rst : t.rst = s.rst) (pending : t.pending = s.pending)
    (clocks : t.clocks = s.clocks) : s.KeepsSettings t := ⟨fun h => absurd hm h, strap, rst, pending, clocks⟩

theorem State.voidSnapshots_strap (e : Elem) (s : State) (q : Port) :
    ((s.voidSnapshots e).port q).strap = (s.port q).strap := (State.voidSnapshots_settles e s).strap q

section
variable (s : State)

theorem State.timingRequest_keepsSettings (a : TimingArgs) : s.KeepsSettings (s.timingRequest a).1 := by
  unfold State.timingRequest
  split
  · exact State.keepsSettings_of_setup ‹_› (fun _ => rfl) rfl rfl rfl
  · exact (State.Settles.refl s).keepsSettings
theorem State.elementRequest_keepsSettings (e : Byte) (a : HeaderArgs) :
    s.KeepsSettings (s.elementRequest e a).1 := by
  unfold State.elementRequest
  split
  · exact (State.Settles.refl s).keepsSettings
  · rename_i hm
    dsimp only
    repeat' split
    all_goals first
      | exact (State.Settles.refl s).keepsSettings
      | exact State.keepsSettings_of_setup (not_not.mp hm) (State.voidSnapshots_strap _ _) rfl rfl rfl
theorem State.armRequest_keepsSettings : s.KeepsSettings s.armRequest.1 := by
  unfold State.armRequest
  split
  · exact (State.Settles.refl s).keepsSettings
  · split
    · exact (State.Settles.refl s).keepsSettings
    · split
      · exact (State.Settles.refl s).keepsSettings
      · dsimp only
        exact ((State.transition_settles _ _ s).trans (State.armEvent_arbitrates _).plays.settles).keepsSettings
theorem State.disarmRequest_keepsSettings : s.KeepsSettings s.disarmRequest.1 := by
  unfold State.disarmRequest
  split
  · exact (State.Settles.refl s).keepsSettings
  · dsimp only
    exact (((State.transition_settles _ _ s).trans (State.voidStage_settles _)).trans
      (State.disarmEvent_arbitrates _).plays.settles).keepsSettings
theorem State.startRequest_keepsSettings : s.KeepsSettings s.startRequest.1 := by
  unfold State.startRequest
  split
  · exact (State.Settles.refl s).keepsSettings
  · split
    · exact (State.Settles.refl s).keepsSettings
    · dsimp only
      exact (State.enter_settles _ _ s).keepsSettings
theorem State.abortRequest_keepsSettings : s.KeepsSettings s.abortRequest.1 := by
  unfold State.abortRequest
  split
  · dsimp only
    exact (State.enter_settles _ _ s).keepsSettings
  · exact (State.Settles.refl s).keepsSettings
theorem State.haltRequest_keepsSettings : s.KeepsSettings s.haltRequest.1 := by
  unfold State.haltRequest
  split
  · dsimp only
    exact ((State.transition_settles _ _ s).trans (State.announceEnables_arbitrates _ s).plays.settles).keepsSettings
  · split <;> exact (State.Settles.refl s).keepsSettings
theorem State.resumeRequest_keepsSettings : s.KeepsSettings s.resumeRequest.1 := by
  unfold State.resumeRequest
  split
  · dsimp only
    exact ((State.transition_settles _ _ s).trans (State.announceEnables_arbitrates _ s).plays.settles).keepsSettings
  · exact (State.Settles.refl s).keepsSettings
theorem State.finaliseRequest_keepsSettings : s.KeepsSettings s.finaliseRequest.1 := by
  unfold State.finaliseRequest
  split
  · dsimp only
    exact (State.transition_settles _ _ s).keepsSettings
  · exact (State.Settles.refl s).keepsSettings
/-- The new-match event keeps what no event of a tick touches (R21). -/
theorem State.newMatchEvent_settles : s.Settles s.newMatchEvent := by
  refine ⟨fun q => ?_, fun q => ?_, fun q => ?_, rfl, rfl, rfl, rfl, fun e => ?_⟩ <;>
    simp [State.newMatchEvent, State.port, State.element, State.elementAtNewMatch]
theorem State.newMatchRequest_keepsSettings : s.KeepsSettings s.newMatchRequest.1 := by
  unfold State.newMatchRequest
  split
  · dsimp only
    exact ((State.transition_settles _ _ s).trans (State.newMatchEvent_settles _)).keepsSettings
  · exact (State.Settles.refl s).keepsSettings

/-- A write of the stage alone changes no setting. -/
theorem State.setStage_settles (st : Stage) : s.Settles { s with stage := st } :=
  ⟨fun _ => rfl, fun _ => rfl, fun _ => rfl, rfl, rfl, rfl, rfl, fun _ => rfl⟩
theorem State.stageOpenRequest_eq : s.stageOpenRequest.1 = { s with stage := s.stageOpenRequest.1.stage } := by
  unfold State.stageOpenRequest
  repeat' split
  all_goals rfl
theorem State.stagePutRequest_eq (e : Byte) (a : ProfileArgs) :
    (s.stagePutRequest e a).1 = { s with stage := (s.stagePutRequest e a).1.stage } := by
  unfold State.stagePutRequest
  repeat' split
  all_goals rfl
theorem State.stageSealRequest_eq : s.stageSealRequest.1 = { s with stage := s.stageSealRequest.1.stage } := by
  unfold State.stageSealRequest
  repeat' split
  all_goals rfl
theorem State.stageDiscardRequest_eq :
    s.stageDiscardRequest.1 = { s with stage := s.stageDiscardRequest.1.stage } := by
  unfold State.stageDiscardRequest
  split <;> rfl

/-- No request changes a setting. -/
theorem State.writingRequest_keepsSettings {c : Instr} {p : Port} {code : Byte} {body : State → State × Answer}
    (hq : requestOf c = some (p, code, body)) (hw : writesPlanOrClock c = true) : s.KeepsSettings (body s).1 := by
  cases c <;> cases hw <;> cases hq
  case setTiming => exact s.timingRequest_keepsSettings _
  case setElement => exact s.elementRequest_keepsSettings _ _
  case arm => exact s.armRequest_keepsSettings
  case disarm => exact s.disarmRequest_keepsSettings
  case start => exact s.startRequest_keepsSettings
  case halt => exact s.haltRequest_keepsSettings
  case resume => exact s.resumeRequest_keepsSettings
  case abort => exact s.abortRequest_keepsSettings
  case finalise => exact s.finaliseRequest_keepsSettings
  case newMatch => exact s.newMatchRequest_keepsSettings
  case stageOpen => rw [s.stageOpenRequest_eq]; exact (s.setStage_settles _).keepsSettings
  case stagePut => rw [s.stagePutRequest_eq]; exact (s.setStage_settles _).keepsSettings
  case stageSeal => rw [s.stageSealRequest_eq]; exact (s.setStage_settles _).keepsSettings
  case stageDiscard => rw [s.stageDiscardRequest_eq]; exact (s.setStage_settles _).keepsSettings
theorem State.request_keepsSettings {c : Instr} {p : Port} {code : Byte} {body : State → State × Answer}
    (hq : requestOf c = some (p, code, body)) : s.KeepsSettings (body s).1 := by
  cases hw : writesPlanOrClock c with
  | true => exact s.writingRequest_keepsSettings hq hw
  | false => exact (requestOf_steady hq hw s).keepsSettings

/-- The counting of a tick changes no score. -/
theorem State.count_sameScores (sense : BitVec 48) (fs : BitVec 4) : s.SameScores (s.count sense fs) := ⟨rfl, rfl⟩
/-- The counting of a tick changes no setting. -/
theorem State.count_settles (sense : BitVec 48) (fs : BitVec 4) : s.Settles (s.count sense fs) := by
  have hp : ∀ q, ((s.count sense fs).port q).frame = (s.port q).frame ∧
      ((s.count sense fs).port q).strap = (s.port q).strap ∧
      ((s.count sense fs).port q).subscription = (s.port q).subscription := fun q => by
    simp only [State.count, State.port, rewriteAll_get, PortRecord.silenceTick]
    repeat' split
    all_goals exact ⟨rfl, rfl, rfl⟩
  refine ⟨fun q => (hp q).1, fun q => (hp q).2.1, fun q => (hp q).2.2, rfl, rfl, rfl, rfl, fun e => ?_⟩
  simp [State.count, State.element, Element.tick]

end

/-- No command but a reset changes a setting, and only RST ACTIVE and a reset change RST. -/
theorem exec_keepsSettings {c : Instr} {s t : State} (h : exec c s = .next t)
    (hc : ∀ straps sense fs, c ≠ .hardwareReset straps sense fs) :
    s.KeepsSettings t ∨ t = { s with ports := rewriteAll (fun _ x => x.dropFrame) s.ports, rst := true } := by
  rcases exec_cases h with k | ⟨straps, sense, fs, k, -⟩ | ⟨sense, fs, -, k⟩ | ⟨due, act, hq, hd, k⟩ |
    ⟨p, code, body, bytes, hq, k⟩ | ⟨p, bytes, k⟩ | ⟨p, f, k⟩ | k
  · rw [k]; exact .inl (State.Steady.refl s).keepsSettings
  · exact absurd k (hc straps sense fs)
  · obtain ⟨hs, hm⟩ := s.settled_keepsSettings
    rw [k]; exact .inl (hs.trans hm (s.settled.count_settles sense fs).keepsSettings)
  · rw [k]; exact .inl ((eventOf_cases hq s hd).elim State.Steady.keepsSettings fun h => h.keepsSettings.1)
  · obtain ⟨hs, hm⟩ := s.examined_keepsSettings p
    have ha := (State.answered_steady p bytes (body (s.examined p)).1)
    have hb := (s.examined p).request_keepsSettings hq
    rw [k]; refine .inl (hs.trans hm ⟨fun h => ?_, fun q => (ha.strap q).trans (hb.strap q), hb.rst, hb.pending, hb.clocks⟩)
    exact hb.record h
  · obtain ⟨hs, hm⟩ := s.examined_keepsSettings p
    rw [k]; exact .inl (hs.trans hm (State.answered_steady p bytes _).keepsSettings)
  · rw [k]; exact .inl (State.setFrame_steady p f s).keepsSettings
  · exact .inr k

/-! ## The scores of a closed match -/

/-- In CLOSED a request of the plan or the phase clock but NEW MATCH is refused, and one of the stage writes the stage. -/
theorem State.writingRequest_closed {s : State} (hs : s.clock.state = .closed) {c : Instr} {p : Port} {code : Byte}
    {body : State → State × Answer} (hq : requestOf c = some (p, code, body)) (hw : writesPlanOrClock c = true)
    (hc : ∀ p, c ≠ .newMatch p) : body s = (s, refuse .phase) ∨ (body s).1 = { s with stage := (body s).1.stage } := by
  cases c <;> cases hw <;> cases hq
  case setTiming => exact .inl (by simp [State.timingRequest, hs])
  case setElement => exact .inl (by simp [State.elementRequest, hs])
  case arm => exact .inl (by simp [State.armRequest, hs])
  case disarm => exact .inl (by simp [State.disarmRequest, hs])
  case start => exact .inl (by simp [State.startRequest, hs])
  case halt => exact .inl (by simp [State.haltRequest, hs, MatchState.phase])
  case resume => exact .inl (by simp [State.resumeRequest, hs])
  case abort => exact .inl (by simp [State.abortRequest, hs, MatchState.isRunning])
  case finalise => exact .inl (by simp [State.finaliseRequest, hs])
  case newMatch => exact absurd rfl (hc _)
  case stageOpen => exact .inr s.stageOpenRequest_eq
  case stagePut => exact .inr (s.stagePutRequest_eq _ _)
  case stageSeal => exact .inr s.stageSealRequest_eq
  case stageDiscard => exact .inr s.stageDiscardRequest_eq
/-- In CLOSED every request but NEW MATCH keeps clock and scores (R156). -/
theorem State.request_closed {s : State} (hs : s.clock.state = .closed) {c : Instr} {p : Port} {code : Byte}
    {body : State → State × Answer} (hq : requestOf c = some (p, code, body)) (hc : ∀ p, c ≠ .newMatch p) :
    s.SameScores (body s).1 ∧ (body s).1.clock = s.clock := by
  cases hw : writesPlanOrClock c with
  | false =>
    have h := requestOf_steady hq hw s
    exact ⟨h.scores hs, h.clock⟩
  | true =>
    rcases State.writingRequest_closed hs hq hw hc with h | h <;> rw [h]
    · exact ⟨.refl s, rfl⟩
    · exact ⟨⟨rfl, rfl⟩, rfl⟩

/-- In CLOSED nothing but NEW MATCH and a reset changes clock or scores (R156). -/
theorem exec_closed {c : Instr} {s t : State} (h : exec c s = .next t)
    (hc : ∀ straps sense fs, c ≠ .hardwareReset straps sense fs) (hn : ∀ p, c ≠ .newMatch p)
    (hs : s.clock.state = .closed) : s.SameScores t ∧ t.clock = s.clock := by
  have running : ¬ s.clock.state.isRunning = true := by rw [hs]; simp [MatchState.isRunning]
  have steady : ∀ {t : State}, s.Steady t → s.SameScores t ∧ t.clock = s.clock := fun k => ⟨k.scores hs, k.clock⟩
  have settled : s.Steady s.settled :=
    s.settled_cases.resolve_right fun ⟨_, _, _, ht, _⟩ => running ht.running
  have examined : ∀ p, s.Steady (s.examined p) := fun p => settled.trans (State.frameComplete_steady p _)
  rcases exec_cases h with k | ⟨straps, sense, fs, k, -⟩ | ⟨sense, fs, -, k⟩ | ⟨due, act, hq, hd, k⟩ |
    ⟨p, code, body, bytes, hq, k⟩ | ⟨p, bytes, k⟩ | ⟨p, f, k⟩ | k
  · rw [k]; exact steady (.refl s)
  · exact absurd k (hc straps sense fs)
  · rw [k, State.count_clock, settled.clock, if_neg running]
    exact ⟨(settled.scores hs).trans (s.settled.count_sameScores sense fs), rfl⟩
  · rw [k]
    exact steady ((eventOf_cases hq s hd).resolve_right fun ⟨_, _, _, ht, _⟩ => running ht.running)
  · have he := examined p
    obtain ⟨h1, h2⟩ := State.request_closed (by rw [he.clock]; exact hs) hq hn
    rw [k]
    exact ⟨(he.scores hs).trans ⟨h1.accumulators, h1.published⟩, h2.trans he.clock⟩
  · rw [k]; exact steady ((examined p).trans (State.answered_steady p bytes _))
  · rw [k]; exact steady (State.setFrame_steady p f s)
  · rw [k]; exact ⟨⟨rfl, rfl⟩, rfl⟩

/-- Settles O52, by what a command can do. -/
theorem scoresTimingHeadersAndRolesAreFrozen : Obligations.ScoresTimingHeadersAndRolesAreFrozen := by
  intro c s t h hc
  refine ⟨fun hs hn => exec_closed h hc hn hs, ?_⟩
  rcases exec_keepsSettings h hc with k | k
  · exact ⟨k.record, fun p => State.role_congr (k.strap p), fun hr => k.rst.trans hr, k.pending, k.clocks⟩
  · rw [k]
    exact ⟨fun _ => ⟨rfl, fun _ => rfl⟩, fun p => State.role_congr (by simp [State.port, PortRecord.dropFrame]),
      fun _ => rfl, rfl, rfl⟩

end Sys2Proof.Machine

namespace Sys2Proof.Machine

/-! # Ticks and timed phases -/

theorem MatchState.isLive_iff {m : MatchState} : m.isLive = true ↔ m = .auto ∨ m = .drive ∨ m = .endgame := by
  cases m <;> simp [MatchState.isLive]
theorem MatchState.isRunning_iff {m : MatchState} :
    m.isRunning = true ↔ (m = .auto ∨ m = .drive ∨ m = .endgame) ∨ m = .brk := by
  cases m <;> simp [MatchState.isRunning]
theorem State.isBridge_iff {s : State} {p : Port} : s.isBridge p = true ↔ s.role p = .bridge := decide_eq_true_iff

/-! ## The counting of a tick, record by record -/

/-- What the counting leaves as it is. -/
theorem State.count_frame (sense : BitVec 48) (fs : BitVec 4) (s : State) :
    (s.count sense fs).timing = s.timing ∧ (s.count sense fs).stage = s.stage ∧ s.SameScores (s.count sense fs) ∧
    (s.count sense fs).rst = s.rst ∧ (s.count sense fs).boundaries = s.boundaries ∧
    (s.count sense fs).pending = s.pending ∧ (s.count sense fs).clocks = s.clocks :=
  ⟨rfl, rfl, ⟨rfl, rfl⟩, rfl, rfl, rfl, rfl⟩
/-- A robot record after the counting (R49). -/
theorem State.count_robot (sense : BitVec 48) (fs : BitVec 4) (s : State) (r : Robot) :
    (s.count sense fs).robot r =
      { s.robot r with bench := if s.clock.state.isLive = true then (s.robot r).bench - 1 else (s.robot r).bench } := by
  simp only [State.count, State.robot, rewriteAll_get]
  split <;> rfl
/-- A port record after the counting (R53). -/
theorem State.count_port (sense : BitVec 48) (fs : BitVec 4) (s : State) (q : Port) :
    (s.count sense fs).port q =
      if s.clock.state.isLive = true ∧ s.isBridge q = true ∧ (s.port q).link = .live ∧ 0 < (s.port q).silence then
        { s.port q with silence := (s.port q).silence - 1, silenceDue := (s.port q).silence = 1 }
      else s.port q := by
  have h : (s.count sense fs).port q =
      if (s.clock.state.isLive && s.isBridge q) = true then (s.port q).silenceTick else s.port q :=
    rewriteAll_get _ s.ports q
  rw [h, PortRecord.silenceTick]
  by_cases hl : s.clock.state.isLive = true <;> by_cases hb : s.isBridge q = true <;> simp [hl, hb]
/-- An element after the counting and sampling (R117, R129, R135). -/
theorem State.count_element (sense : BitVec 48) (fs : BitVec 4) (s : State) (e : Elem) :
    (s.count sense fs).element e = (s.element e).tick (decide (s.clock.state ≠ .halted)) sense e :=
  rewriteAll_get _ s.elements e
/-- A field stop line after its sample (R142). -/
theorem State.count_stop (sense : BitVec 48) (fs : BitVec 4) (s : State) (g : Group) :
    (s.count sense fs).stop g = (s.stop g).take (fs.getLsbD g.val) := rewriteAll_get _ s.stops g

/-- The counting of a pulse unit by its mode (R117, R120, R123). -/
theorem PulseUnit.tick_cases (u : PulseUnit) (h : u.run = true) :
    (u.mode = .idle → u.tick = u) ∧
    (u.mode = .shot ∨ u.mode = .wave → u.tick = { u with count := u.count - 1 }) ∧
    (u.mode = .rate → u.tick = { u with count := u.count - 1, output := false }) ∧
    (u.mode = .strobe → u.output = false → u.tick = { u with count := u.count - 1 }) ∧
    (u.mode = .strobe → u.output = true → u.tick = { u with mode := .idle, output := false, run := false }) := by
  refine ⟨fun hm => ?_, fun hm => ?_, fun hm => ?_, fun hm ho => ?_, fun hm ho => ?_⟩
  · simp [PulseUnit.tick, h, hm]
  · rcases hm with hm | hm <;> simp [PulseUnit.tick, h, hm]
  · simp [PulseUnit.tick, h, hm]
  · simp [PulseUnit.tick, h, hm, ho]
  · simp [PulseUnit.tick, h, hm, ho]

/-- Settles O4: a TICK takes what is outstanding and counts, record by record. -/
theorem tickCountsTimersAndSamplesLines : Obligations.TickCountsTimersAndSamplesLines := by
  intro sense fs s hs
  refine ⟨s.settled.count sense fs, by simp [exec, execTick, show s.rst = false from hs], ?_⟩
  generalize s.settled = v
  intro u live
  have hlive : v.clock.state.isLive = true ↔ live := MatchState.isLive_iff
  refine ⟨?_, fun r => ?_, fun q => ?_, fun e => ?_, fun g => State.count_stop sense fs u g, u.count_frame sense fs⟩
  · rw [State.count_clock]
    by_cases h : u.clock.state.isRunning = true
    · rw [if_pos h, if_pos (MatchState.isRunning_iff.mp h)]
    · rw [if_neg h, if_neg fun k => h (MatchState.isRunning_iff.mpr k)]
  · simp only [State.count_robot, hlive, u]
  · simp only [State.count_port, hlive, State.isBridge_iff, u]
  · intro x y
    have hy : y = x.tick (decide (u.clock.state ≠ .halted)) sense e := State.count_element sense fs u e
    refine ⟨by rw [hy]; rfl, ?_, ?_, ?_, by rw [hy]; rfl, by rw [hy]; rfl⟩
    · rw [hy]
      by_cases hm : u.clock.state = .halted
      · simp [Element.tick, hm]
      · by_cases ht : x.timer.running = true <;> simp [Element.tick, ClaimTimer.tick, hm, ht]
    · rintro (hm | hr) <;> rw [hy]
      · simp [Element.tick, hm]
      · simp only [Element.tick]
        split <;> simp [PulseUnit.tick, hr]
    · intro hm hr
      have hp : y.pulse = x.pulse.tick := by rw [hy]; simp [Element.tick, hm]
      rw [hp]
      exact x.pulse.tick_cases hr

/-! ## Nothing due -/

theorem acceptedDue_eq_false {k : Option Nat} : acceptedDue k = false ↔ k ≠ some 0 := by simp [acceptedDue]
/-- A pulse unit of which nothing is due. -/
theorem State.takePulse_idle {e : Elem} {s : State} (h1 : (s.element e).pulse.shotDue = false)
    (h2 : (s.element e).pulse.rateDue = false) (h3 : (s.element e).pulse.waveDue = false)
    (h4 : (s.element e).pulse.strobeDue = false) : s.takePulse e = s := by simp [State.takePulse, h1, h2, h3, h4]
/-- A field stop line of which nothing is due. -/
theorem State.takeStop_idle {g : Group} {s : State} (h : (s.stop g).pending ≠ some 0) : s.takeStop g = s := by
  simp [State.takeStop, State.assertDue, State.releaseDue, acceptedDue_eq_false.mpr h]
/-- A phase clock of which nothing is due. -/
theorem State.takePhase_idle {s : State} (h1 : s.autoDue = false) (h2 : s.breakDue = false)
    (h3 : s.thresholdDue = false) (h4 : s.finishDue = false) : s.takePhase = s := by
  simp [State.takePhase, h1, h2, h3, h4]

/-- An event command that is not due, or comes while RST is active, changes nothing. -/
theorem exec_event_idle {c : Instr} {due : State → Bool} {act : State → State} (hc : eventOf c = some (due, act))
    {s : State} (h : s.rst = true ∨ due s = false) : exec c s = .next s := by
  rw [exec_of_eventOf hc, State.event_idle h]
/-- An event command that is due acts. -/
theorem exec_event_due {c : Instr} {due : State → Bool} {act : State → State} (hc : eventOf c = some (due, act))
    {s : State} (hr : s.rst = false) (h : due s = true) : exec c s = .next (act s) := by
  rw [exec_of_eventOf hc, State.event_due hr h]

/-- Where nothing is outstanding nothing is taken. -/
theorem State.settled_idle {s : State} (hp : ∀ p, s.silenceDue p = false) (hr : ∀ r, s.benchDue r = false)
    (hu : ∀ e, s.takePulse e = s) (ht : ∀ e, (s.element e).timer.due = false) (h0 : ∀ e, State.senseDue .s0 s e = false)
    (h1 : ∀ e, State.senseDue .s1 s e = false) (hg : ∀ g, s.takeStop g = s) (hf : ∀ e, (s.element e).feedDue = false)
    (ha : ∀ e, (s.element e).arrivalDue = false) (he : ∀ e, (s.element e).returnDue = false) (hc : s.takePhase = s) :
    s.settled = s := by
  have silences : s.takeSilences = s := State.forEach_idle fun p _ => if_neg (by simp [hp p])
  have benches : s.takeEach allRobots State.benchDue State.benchExpiry = s := State.takeEach_idle fun r _ => hr r
  have timers : s.takeEach allElems (fun s e => (s.element e).timer.due) State.timerExpiry = s :=
    State.takeEach_idle fun e _ => ht e
  have senses0 : s.takeEach allElems (State.senseDue .s0) (State.acceptSense · .s0) = s :=
    State.takeEach_idle fun e _ => h0 e
  have senses1 : s.takeEach allElems (State.senseDue .s1) (State.acceptSense · .s1) = s :=
    State.takeEach_idle fun e _ => h1 e
  have feeds : s.takeEach allElems (fun s e => (s.element e).feedDue) State.startPendingFeed = s :=
    State.takeEach_idle fun e _ => hf e
  have arrivals : s.takeEach allElems (fun s e => (s.element e).arrivalDue) State.takeArrival = s :=
    State.takeEach_idle fun e _ => ha e
  have ends : s.takeEach allElems (fun s e => (s.element e).returnDue) State.settleReturn = s :=
    State.takeEach_idle fun e _ => he e
  unfold State.settled
  dsimp only
  rw [silences, benches, State.forEach_idle fun e _ => hu e, timers, senses0, senses1, State.forEach_idle fun g _ => hg g,
    feeds, arrivals, ends, hc]

/-- Settles O6: `settled` of a state where nothing is due, and each event command not due. -/
theorem nothingDueNothingTaken : Obligations.NothingDueNothingTaken := by
  intro s
  have idle : ∀ (c : Instr) {due act}, eventOf c = some (due, act) → s.rst = true ∨ due s = false →
      exec c s = .next s := fun _ _ _ hc h => exec_event_idle hc h
  refine ⟨fun hp hr he hg h1 h2 h3 h4 => ?_, idle .autoExpiry rfl, idle .breakExpiry rfl, idle .endgameThreshold rfl,
    idle .naturalFinish rfl, fun r => idle (.benchExpiry r) rfl, fun p => idle (.silenceExpiry p) rfl,
    fun g => idle (.fieldStopAsserted g) rfl, fun g => idle (.fieldStopReleased g) rfl, fun e =>
    ⟨idle (.feedPendingStart e) rfl, idle (.shotExpiry e) rfl, idle (.rateExpiry e) rfl, idle (.waveHalfChange e) rfl,
      idle (.strobeExpiry e) rfl, idle (.claimTimerExpiry e) rfl,
      fun i h => idle (.senseChangeAccepted e i) rfl (h.imp_right acceptedDue_eq_false.mpr),
      idle (.gateArrival e) rfl, idle (.returnEnd e) rfl, fun _ _ h => by simp [exec, execTick, h]⟩⟩
  choose shot rate wave strobe timer s0 s1 feed arrival ends using he
  exact State.settled_idle hp hr (fun e => State.takePulse_idle (shot e) (rate e) (wave e) (strobe e)) timer
    (fun e => acceptedDue_eq_false.mpr (s0 e)) (fun e => acceptedDue_eq_false.mpr (s1 e))
    (fun g => State.takeStop_idle (hg g)) feed arrival ends (State.takePhase_idle h1 h2 h3 h4)

/-! ## The ends of timed phases (R14 to R16) -/

/-- Settles O12: each end of a timed phase is due, and silence expiries change neither clock nor timing record. -/
theorem timedPhasesEndByTheirCount : Obligations.TimedPhasesEndByTheirCount := by
  intro s hs u driveEntry
  have hu : s.Steady u := s.takeSilences_steady
  refine ⟨fun hm hr hb => ?_, fun hm hr hb => ?_, fun hm hr => ?_, fun hm hg hr => ?_, fun hr hm => ?_⟩
  · rw [exec_event_due (c := .autoExpiry) rfl hs (by simp [State.autoDue, hm, hr])]
    have h : s.afterAuto = { s.clock with state := .brk, remaining := s.timing.breakS * 1000 } := if_pos hb
    have hl : ¬ s.afterAuto.state.isLive = true := by rw [h]; simp [MatchState.isLive]
    rw [State.autoExpiry, if_neg hl, h]
  · rw [exec_event_due (c := .autoExpiry) rfl hs (by simp [State.autoDue, hm, hr])]
    have h : u.afterAuto = driveEntry := by
      rw [State.afterAuto, hu.timing, if_neg (by omega), State.driveEntry, hu.timing, hu.clock]
    have hl : s.afterAuto.state.isLive = true := by
      rw [State.afterAuto, if_neg (by omega), State.driveEntry]
      dsimp only
      split <;> rfl
    rw [State.autoExpiry, if_pos hl, h]
  · rw [exec_event_due (c := .breakExpiry) rfl hs (by simp [State.breakDue, hm, hr])]
    have h : u.driveEntry = driveEntry := by rw [State.driveEntry, hu.timing, hu.clock]
    rw [State.breakExpiry, h]
  · rw [exec_event_due (c := .endgameThreshold) rfl hs (by simp [State.thresholdDue, hm, hg, hr])]
    rw [State.thresholdReached, hu.clock]
  · rw [exec_event_due (c := .naturalFinish) rfl hs
      (by rcases hm with k | ⟨k, k'⟩ <;> simp [State.finishDue, *])]
    rfl

end Sys2Proof.Machine

namespace Sys2Proof.Machine

/-! # The state after reset -/

section
variable (straps : BitVec 5) (sense : BitVec 48) (fs : BitVec 4) (n : Nat) (q : List Instr) (cs : List (Port × Bool))

@[simp] theorem State.afterReset_element (e : Elem) : (State.afterReset straps sense fs n q cs).element e =
    .reset (sense.getLsbD (2 * e.val)) (sense.getLsbD (2 * e.val + 1)) := tabulate_get _ _ _
@[simp] theorem State.afterReset_claim (e : Elem) :
    (State.afterReset straps sense fs n q cs).claim e = ⟨.inert, none, []⟩ := by
  rw [State.claim, State.afterReset_element]; rfl
@[simp] theorem State.afterReset_robot (r : Robot) : (State.afterReset straps sense fs n q cs).robot r = .reset :=
  replicate_get _ _
@[simp] theorem State.afterReset_port (p : Port) :
    (State.afterReset straps sense fs n q cs).port p = .reset (strapRole straps p) := tabulate_get _ _ _
@[simp] theorem State.afterReset_stop (g : Group) :
    (State.afterReset straps sense fs n q cs).stop g = ⟨!fs.getLsbD g.val, none⟩ := tabulate_get _ _ _
@[simp] theorem State.afterReset_scores (a : Alliance) :
    (State.afterReset straps sense fs n q cs).accumulators.get a = 0 ∧
    (State.afterReset straps sense fs n q cs).published.get a = 0 := ⟨replicate_get _ _, replicate_get _ _⟩
@[simp] theorem State.afterReset_stageEntry (e : Elem) :
    (State.afterReset straps sense fs n q cs).stage.entries.get e = none := replicate_get _ _
/-- The role of a port after reset (R161). -/
theorem State.afterReset_role (p : Port) : (State.afterReset straps sense fs n q cs).role p = strapRole straps p := by
  rw [State.role, State.afterReset_port]
  unfold strapRole
  split <;> rfl
/-- After reset no drive line is active (R139). -/
theorem State.afterReset_driveActive (e : Elem) (l : Line) :
    (State.afterReset straps sense fs n q cs).driveActive e l = false := by
  rw [State.driveActive, State.afterReset_element]
  cases l <;> exact Bool.and_false _

/-- After reset the claim table is empty: no robot has a place, and the mirrors agree. -/
theorem State.afterReset_places (r : Robot) : (State.afterReset straps sense fs n q cs).places r = 0 ∧
    (State.afterReset straps sense fs n q cs).heldBy r = none ∧
    (State.afterReset straps sense fs n q cs).waitOf r = none := by
  simp [State.places, State.heldBy, State.waitOf, positionIn]
end

/-- Settles O2, record by record. -/
theorem hardwareResetTakesResetValues : Obligations.HardwareResetTakesResetValues := by
  intro straps sense fs s
  refine ⟨.afterReset straps sense fs s.boundaries s.pending s.clocks, rfl, rfl, rfl, fun e => ?_, rfl, fun r => ?_,
    fun g => ?_, State.afterReset_scores _ _ _ _ _ _, fun p => ?_, rfl, rfl, rfl⟩
  · rw [State.afterReset_element]
    exact ⟨rfl, fun ph => by cases ph <;> rfl, rfl, rfl, rfl, rfl, rfl, rfl, rfl, rfl, rfl, rfl, rfl, rfl, rfl, rfl,
      State.afterReset_stageEntry _ _ _ _ _ _ e, State.afterReset_driveActive _ _ _ _ _ _ e⟩
  · exact State.afterReset_robot _ _ _ _ _ _ r
  · exact State.afterReset_stop _ _ _ _ _ _ g
  · rw [State.attention, State.afterReset_port, State.afterReset_role]
    exact ⟨rfl, rfl, rfl, rfl, rfl, rfl, rfl, rfl, rfl⟩

/-- An element after reset is in range. -/
theorem Element.reset_ok (s0 s1 : Bool) : (Element.reset s0 s1).Ok := by
  refine ⟨?_, ?_, ?_, ?_, ?_, ?_, ?_, ?_, ?_, ?_, ?_, ?_⟩ <;> revert s0 s1 <;> decide

/-- Settles O3: each law on the records of the reset state. -/
theorem resetStateMeetsEveryLaw : Obligations.ResetStateMeetsEveryLaw := by
  have places := State.afterReset_places 0b00111#5 0#48 0b1111#4 0 [] []
  refine ⟨fun a => ?_, fun p => ?_, State.afterReset_clockOk _ _ _ _ _ _, ⟨fun r => ?_, by decide, fun p => ?_⟩,
    ⟨fun e => ?_, fun r => ?_⟩, fun r h => ?_, fun e _ h => ?_, fun e => ?_⟩ <;> unfold State.reset at *
  · obtain ⟨ha, hp⟩ := State.afterReset_scores 0b00111#5 0#48 0b1111#4 0 [] [] a
    simp [ha, hp]
  · rw [State.afterReset_port]
    exact ⟨(by decide : queueOk []), List.Pairwise.nil⟩
  · rw [State.afterReset_robot]
    exact ⟨(by decide : RobotRecord.reset.Ok), rfl, fun _ => ⟨rfl, rfl⟩⟩
  · simp [PortRecord.reset]
  · refine ⟨by simp, by simp, by simp [ClaimState.holder], by simp, fun _ => ?_⟩
    exact (by decide : Profile.closed.use ≠ .claim)
  · obtain ⟨hp, hh, hw⟩ := places r
    simp [hp, hh, hw, RobotRecord.reset]
  · exact absurd h (by rw [(places r).1]; decide)
  · exact absurd (by rw [State.afterReset_element]; rfl) h
  · rw [State.afterReset_element, State.afterReset_stageEntry]
    exact ⟨Element.reset_ok _ _, rfl⟩

/-! # Requests that are heard -/

theorem rowAll_openTo (n k : Nat) (r : Role) : (rowAll n k).openTo r = true := by cases r <;> rfl

/-- A request of every role that is heard. -/
theorem exec_open {c : Instr} {p : Port} {code : Byte} {body : State → State × Answer}
    (h : requestOf c = some (p, code, body)) {n k : Nat} (hrow : requestRow code = some (rowAll n k)) {s : State}
    (hh : s.Hears p) {t : State} {a : Answer} (hb : body (s.examined p) = (t, a)) :
    exec c s = .next (t.answered p (a.status.code :: padded k a.bytes)) :=
  exec_request_open h hrow hh (rowAll_openTo _ _ _) hb

/-- A request of the referee that is heard on P0. -/
theorem exec_referee {c : Instr} {code : Byte} {body : State → State × Answer}
    (h : requestOf c = some (0, code, body)) {n k : Nat} (hrow : requestRow code = some (rowReferee n k)) {s u : State}
    (hh : s.Hears 0) (hu : s.examined 0 = u) {t : State} {a : Answer} (hb : body u = (t, a)) :
    exec c s = .next (t.answered 0 (a.status.code :: padded k a.bytes)) :=
  exec_request_open h hrow hh rfl (hu ▸ hb)

/-! ## PING, READ CLOCK and READ SCORES -/

theorem byte_toNat (n : Nat) : (byte n).toNat = n % 256 := BitVec.toNat_ofNat n 8
theorem signed2_eq (v : Int) : signed2 v = bytes2 (v % 65536).toNat := by
  rw [signed2, BitVec.toNat_ofInt]; rfl
theorem signed4_eq (v : Int) : signed4 v =
    [byte ((v % 4294967296).toNat / 16777216), byte ((v % 4294967296).toNat / 65536),
      byte ((v % 4294967296).toNat / 256), byte (v % 4294967296).toNat] := by
  rw [signed4, BitVec.toNat_ofInt]
  simp [bytes2, Nat.div_div_eq_div_mul]

/-- A sum over the entries that pass a test is the sum in which the others count 0. -/
theorem sum_map_filter {α : Type} (test : α → Bool) (f : α → Int) (xs : List α) :
    ((xs.filter test).map f).sum = (xs.map fun a => if test a = true then f a else 0).sum := by
  induction xs with
  | nil => rfl
  | cons a xs ih => cases h : test a <;> simp [h, ih]

/-- The total of the published scores in play, as a sum over the alliances (R155). -/
theorem State.scoreTotal_eq (s : State) : s.scoreTotal =
    ∑ a : Alliance, if s.clock.inPlay.getLsbD a.val = true then s.published.get a else 0 := by
  rw [Fin.sum_univ_def]
  exact sum_map_filter _ _ allAlliances

theorem scores_length (f : Alliance → Int) (g : Alliance → Int) (h : Alliance → Byte) :
    (allAlliances.flatMap fun a => signed4 (f a) ++ signed2 (g a) ++ [h a]).length = 28 := by
  simp [allAlliances, signed4, signed2, bytes2, List.finRange]

/-- Settles O30: the codes by evaluation, the answers by the one body that each request has. -/
theorem pingClockAndScoresAreRead : Obligations.PingClockAndScoresAreRead := by
  refine ⟨by decide, by decide, fun n => ⟨rfl, byte_toNat n⟩, signed2_eq, signed4_eq, fun _ _ => ⟨rfl, fun _ => rfl⟩,
    ⟨rfl, rfl⟩, fun p s hh => ?_⟩
  intro u total share
  have ht : u.scoreTotal = total := u.scoreTotal_eq
  refine ⟨?_, ?_, ?_⟩
  · rw [exec_open (c := .ping p) rfl rfl hh rfl, ← State.examined_role p p s]
    rfl
  · rw [exec_open (c := .readClock p) rfl rfl hh rfl]
    rfl
  · rw [exec_open (c := .readScores p) rfl rfl hh rfl]
    have hs : ∀ a, u.share a = share a := fun a => by simp [State.share, ht, share]
    have hz : u.zeroFlag = decide (total ≤ 0) := by rw [State.zeroFlag, ht]
    have hb : ((s.examined p).scoresAnswer).bytes = byte ((if total ≤ 0 then 128 else 0) + u.clock.inPlay.toNat) ::
        allAlliances.flatMap fun a =>
          signed4 (u.accumulators.get a) ++ signed2 (u.published.get a) ++ [byte (share a).toNat] := by
      simp only [State.scoresAnswer, accept, ← hs, u, hz, decide_eq_true_eq]
    rw [padded_full (by rw [hb, List.length_cons, scores_length]), hb]
    rfl

end Sys2Proof.Machine

namespace Sys2Proof.Machine

/-! # SET TIMING, BIND and UNBIND (R9, R44, R45) -/

theorem clampNat_eq {lo hi v : Nat} (h : lo ≤ hi) :
    clampNat lo hi v = if v < lo then lo else if hi < v then hi else v := by
  unfold clampNat
  split
  · omega
  · split <;> omega

theorem robotOf_some {b : Byte} {r : Robot} (h : b.toNat = r.val) : robotOf b = some r := indexOf_some.mpr h
theorem robotOf_none {b : Byte} (h : 16 ≤ b.toNat) : robotOf b = none := indexOf_none.mpr h
theorem allianceOf_some {b : Byte} {a : Alliance} (h : b.toNat = a.val) : allianceOf b = some a := indexOf_some.mpr h
theorem allianceOf_none {b : Byte} (h : 4 ≤ b.toNat) : allianceOf b = none := indexOf_none.mpr h
theorem bindPortOf_some {b : Byte} {q : Port} (h : b.toNat = q.val) (hq : q ≠ 0) : bindPortOf b = some q := by
  rw [bindPortOf, indexOf_some.mpr h]
  exact if_neg hq
theorem bindPortOf_none {b : Byte} (h : b.toNat = 0 ∨ 6 ≤ b.toNat) : bindPortOf b = none := by
  rcases h with h | h
  · rw [bindPortOf, indexOf_some.mpr (show b.toNat = (0 : Port).val from h)]
    rfl
  · rw [bindPortOf, indexOf_none.mpr h]

/-- BIND with a bad argument (R44). -/
theorem State.bindRequest_badArg {s : State} {rb qb ab : Byte} (hm : s.clock.state = .setup)
    (h : 16 ≤ rb.toNat ∨ qb.toNat = 0 ∨ 6 ≤ qb.toNat ∨ 4 ≤ ab.toNat) : s.bindRequest rb qb ab = (s, refuse .badArg) := by
  unfold State.bindRequest
  rw [if_neg (not_not.mpr hm)]
  have bad : robotOf rb = none ∨ bindPortOf qb = none ∨ allianceOf ab = none := by
    rcases h with h | h | h | h
    · exact .inl (robotOf_none h)
    · exact .inr (.inl (bindPortOf_none (.inl h)))
    · exact .inr (.inl (bindPortOf_none (.inr h)))
    · exact .inr (.inr (allianceOf_none h))
  split
  · rename_i hr hq ha
    simp [hr, hq, ha] at bad
  · rfl
/-- BIND with its arguments in range (R44). -/
theorem State.bindRequest_eq {s : State} {rb qb ab : Byte} {r : Robot} {q : Port} {a : Alliance}
    (hm : s.clock.state = .setup) (hr : rb.toNat = r.val) (hq : qb.toNat = q.val) (h0 : q ≠ 0) (ha : ab.toNat = a.val) :
    s.bindRequest rb qb ab = if s.isBridge q then
      (s.setRobot r { s.robot r with bound := some q, alliance := some a }, accept []) else (s, refuse .badArg) := by
  unfold State.bindRequest
  rw [if_neg (not_not.mpr hm), robotOf_some hr, bindPortOf_some hq h0, allianceOf_some ha]
  rfl

/-- Settles O39, by what the bodies of the three requests do in SETUP and elsewhere. -/
theorem timingAndBindingAreWritten : Obligations.TimingAndBindingAreWritten := by
  intro s
  generalize hu : s.examined 0 = v
  intro u setup
  refine ⟨fun a hh => ?_, fun rb qb ab hh => ⟨fun hm => ?_, fun hm h => ?_, fun r q a hm hr hq h0 ha =>
    ⟨fun hb => ?_, fun hb => ?_⟩⟩, fun rb hh => ⟨fun hm => ?_, fun hm h => ?_, fun r hm hr => ⟨fun hb => ?_, fun hb => ?_⟩⟩⟩
  · intro clamp d t
    have ht : timingOf a = t := by
      simp only [timingOf, clampHalf, clampNat_eq (show (0 : Nat) ≤ 300 by decide), clampNat_eq (show (0 : Nat) ≤ 120 by decide),
        clampNat_eq (show 10 ≤ 900 by decide), clampNat_eq (show 1 ≤ 4 by decide),
        clampNat_eq (show 100 ≤ 2000 by decide), clampNat_eq (Nat.zero_le _), t, clamp, d]
    refine ⟨fun hm => ?_, fun hm => ?_⟩
    · rw [exec_referee (c := .setTiming 0 a) rfl rfl hh hu (if_pos hm), ht]
      rfl
    · rw [exec_referee (c := .setTiming 0 a) rfl rfl hh hu (if_neg hm)]
      rfl
  · rw [exec_referee (c := .bind 0 rb qb ab) rfl rfl hh hu (if_pos hm)]
    rfl
  · rw [exec_referee (c := .bind 0 rb qb ab) rfl rfl hh hu (State.bindRequest_badArg hm h)]
    rfl
  · rw [exec_referee (c := .bind 0 rb qb ab) rfl rfl hh hu
      ((State.bindRequest_eq hm hr hq h0 ha).trans (if_neg fun k => hb (State.isBridge_iff.mp k)))]
    rfl
  · rw [exec_referee (c := .bind 0 rb qb ab) rfl rfl hh hu
      ((State.bindRequest_eq hm hr hq h0 ha).trans (if_pos (State.isBridge_iff.mpr hb)))]
    rfl
  · rw [exec_referee (c := .unbind 0 rb) rfl rfl hh hu (if_pos hm)]
    rfl
  · have body : u.unbindRequest rb = (u, refuse .badArg) := by
      rw [State.unbindRequest, if_neg (not_not.mpr hm), robotOf_none h]
    rw [exec_referee (c := .unbind 0 rb) rfl rfl hh hu body]
    rfl
  · have body : u.unbindRequest rb = (u, ⟨.already, []⟩) := by
      rw [State.unbindRequest, if_neg (not_not.mpr hm), robotOf_some hr]
      exact if_neg (by simp [State.isBound, hb])
    rw [exec_referee (c := .unbind 0 rb) rfl rfl hh hu body]
    rfl
  · have body : u.unbindRequest rb =
        (u.setRobot r { u.robot r with bound := none, alliance := none }, accept []) := by
      rw [State.unbindRequest, if_neg (not_not.mpr hm), robotOf_some hr]
      exact if_pos (Option.isSome_iff_ne_none.mpr hb)
    rw [exec_referee (c := .unbind 0 rb) rfl rfl hh hu body]
    rfl

/-! # START and ABORT (R13, R19) -/

theorem State.anyHoming_iff {s : State} :
    s.anyHoming = true ↔ ∃ e, (s.element e).header.kind = .gate ∧ (s.element e).purpose = .home := by
  simp [State.anyHoming, Element.homing, mem_allElems]

/-- The bodies of START and ABORT by the match state. -/
theorem State.startRequest_refused {s : State} (h : s.clock.state ≠ .armed) : s.startRequest = (s, refuse .phase) :=
  if_pos h
theorem State.startRequest_homing {s : State} (h : s.clock.state = .armed) (hg : s.anyHoming = true) :
    s.startRequest = (s, refuse .notReady) := by rw [State.startRequest, if_neg (not_not.mpr h), if_pos hg]
theorem State.startRequest_starts {s : State} (h : s.clock.state = .armed) (hg : ¬ s.anyHoming = true) :
    s.startRequest = (s.enter .start s.afterStart, accept []) := by
  rw [State.startRequest, if_neg (not_not.mpr h), if_neg hg]
theorem MatchState.running_or_halted_iff {m : MatchState} : (m.isRunning || decide (m = .halted)) = true ↔
    m = .auto ∨ m = .brk ∨ m = .drive ∨ m = .endgame ∨ m = .halted := by
  cases m <;> simp [MatchState.isRunning]

/-- Settles O46. -/
theorem startAndAbort : Obligations.StartAndAbort := by
  intro s hh
  generalize hu : s.examined 0 = v
  intro u c homing runs
  have hruns : (u.clock.state.isRunning || decide (u.clock.state = .halted)) = true ↔ runs :=
    MatchState.running_or_halted_iff
  refine ⟨fun hm => ?_, fun hm hg => ?_, fun hm hg ha => ?_, fun hm hg ha => ?_, fun hr => ?_, fun hr => ?_⟩
  · rw [exec_referee (c := .start 0) rfl rfl hh hu (State.startRequest_refused hm)]
    rfl
  · rw [exec_referee (c := .start 0) rfl rfl hh hu (State.startRequest_homing hm (State.anyHoming_iff.mpr hg))]
    rfl
  · have after : u.afterStart = { c with state := .auto, remaining := u.timing.autoS * 1000 } := if_pos ha
    rw [exec_referee (c := .start 0) rfl rfl hh hu
      (State.startRequest_starts hm fun k => hg (State.anyHoming_iff.mp k)), after]
    rfl
  · have after : u.afterStart = u.driveEntry := if_neg (by omega)
    rw [exec_referee (c := .start 0) rfl rfl hh hu
      (State.startRequest_starts hm fun k => hg (State.anyHoming_iff.mp k)), after]
    rfl
  · rw [exec_referee (c := .abort 0) rfl rfl hh hu (if_neg fun k => hr (hruns.mp k))]
    rfl
  · rw [exec_referee (c := .abort 0) rfl rfl hh hu (if_pos (hruns.mpr hr))]
    rfl

end Sys2Proof.Machine

namespace Sys2Proof.Machine

/-! # Runs that hand records and do nothing else (R176, R177) -/

/-- Nothing but the notice queues differs, which took the records `ns` in order. -/
structure State.OnlyHands (ns : List Notice) (s t : State) : Prop where
  rest : t = { s with ports := t.ports }
  ports : s.SamePorts t
  handed : s.HandedAll ns t

theorem State.SamePorts.field {α : Type} {s t : State} (h : s.SamePorts t) (f : PortRecord → α)
    (hf : ∀ x : PortRecord, f x.besideQueue = f x) (q : Port) : f (t.port q) = f (s.port q) := by
  rw [← hf, h q, hf]
theorem State.SamePorts.link {s t : State} (h : s.SamePorts t) (q : Port) : (t.port q).link = (s.port q).link :=
  h.field PortRecord.link (fun _ => rfl) q
theorem State.SamePorts.subscription {s t : State} (h : s.SamePorts t) (q : Port) :
    (t.port q).subscription = (s.port q).subscription := h.field PortRecord.subscription (fun _ => rfl) q

/-- The ports that a record is due to depend on bindings and masks alone (R177). -/
theorem State.routes_congr {s t : State} (hb : ∀ r, (t.robot r).bound = (s.robot r).bound)
    (hm : ∀ q, (t.port q).subscription = (s.port q).subscription) (n : Notice) (q : Port) :
    t.routes n q = s.routes n q := by
  simp only [State.routes, hb, hm]
theorem State.Plays.routes {s t : State} (h : s.Plays t) (n : Notice) (q : Port) : t.routes n q = s.routes n q :=
  State.routes_congr (fun r => by have := congrArg RobotRecord.bound (h.rosters r); exact this)
    (State.SamePorts.subscription h.ports) n q

/-- Records handed one after the other. -/
theorem State.HandedAll.append {ns ms : List Notice} {s t u : State} (h : s.HandedAll ns t) (k : t.HandedAll ms u)
    (hr : ∀ n q, t.routes n q = s.routes n q) : s.HandedAll (ns ++ ms) u := fun q => by
  rw [k q, h q, List.filter_append, List.foldl_append]
  simp only [hr]
theorem State.HandedAll.nil {s t : State} (h : ∀ q, (t.port q).queue = (s.port q).queue) : s.HandedAll [] t := h
theorem State.HandedAll.single {n : Notice} {s t : State} (h : s.Handed n t) : s.HandedAll [n] t := fun q => by
  rw [h q]
  by_cases hr : s.routes n q = true <;> simp [hr]

theorem State.OnlyHands.refl (s : State) : s.OnlyHands [] s := ⟨rfl, fun _ => rfl, fun _ => rfl⟩
theorem State.OnlyHands.robot {ns : List Notice} {s t : State} (h : s.OnlyHands ns t) (r : Robot) :
    t.robot r = s.robot r := by rw [h.rest]; rfl
theorem State.OnlyHands.clock {ns : List Notice} {s t : State} (h : s.OnlyHands ns t) : t.clock = s.clock := by
  rw [h.rest]
theorem State.OnlyHands.trans {ns ms : List Notice} {s t u : State} (h : s.OnlyHands ns t) (k : t.OnlyHands ms u) :
    s.OnlyHands (ns ++ ms) u where
  rest := by
    have hr := k.rest
    rw [h.rest] at hr
    exact hr
  ports := fun q => (k.ports q).trans (h.ports q)
  handed := h.handed.append k.handed (State.routes_congr (fun r => by rw [h.robot]) (State.SamePorts.subscription h.ports))
theorem State.hand_onlyHands (n : Notice) (s : State) : s.OnlyHands [n] (s.hand n) :=
  ⟨rfl, State.hand_samePorts n s, .single (State.hand_handed n s)⟩
theorem State.raise_onlyHands (k : NoticeKind) (re : Option Reason) (r : Option Robot) (e : Option Elem)
    (v : Option Int) (s : State) : s.OnlyHands [s.notice k re r e v] (s.raise k re r e v) := State.hand_onlyHands _ s

/-- A run of actions each of which hands its records, whatever the queues are. -/
theorem State.forEach_onlyHands {ι : Type} {act : ι → State → State} (notes : ι → List Notice) {s : State}
    (h : ∀ i t, (∃ ns, s.OnlyHands ns t) → t.OnlyHands (notes i) (act i t)) (xs : List ι) :
    s.OnlyHands (xs.flatMap notes) (s.forEach xs act) := by
  suffices k : ∀ t ns, s.OnlyHands ns t → s.OnlyHands (ns ++ xs.flatMap notes) (t.forEach xs act) from
    k s [] (.refl s)
  induction xs with
  | nil => exact fun t ns ht => by simpa using ht
  | cons i xs ih =>
    intro t ns ht
    have := ih (act i t) (ns ++ notes i) (ht.trans (h i t ⟨ns, ht⟩))
    rwa [List.append_assoc] at this

/-! ## Enabled flags (R56 to R58) -/

/-- The enabled flag depends on standing, binding, links and the match state alone. -/
theorem State.enabled_congr {s t : State} {r : Robot} (hs : (t.robot r).standing = (s.robot r).standing)
    (hb : (t.robot r).bound = (s.robot r).bound) (hl : ∀ q, (t.port q).link = (s.port q).link)
    (hc : t.clock = s.clock) : t.enabled r = s.enabled r := by
  have link : t.robotLink r = s.robotLink r := by simp only [State.robotLink, hb, hl]
  rw [State.enabled, hs, link, hc, State.enabled]
theorem State.OnlyHands.enabled {ns : List Notice} {s t : State} (h : s.OnlyHands ns t) (r : Robot) :
    t.enabled r = s.enabled r :=
  State.enabled_congr (by rw [h.robot]) (by rw [h.robot]) (State.SamePorts.link h.ports) h.clock
theorem State.Plays.enabled {s t : State} (h : s.Plays t) (r : Robot) : t.enabled r = s.enabled r :=
  State.enabled_congr (by have := congrArg RobotRecord.standing (h.rosters r); exact this)
    (by have := congrArg RobotRecord.bound (h.rosters r); exact this) (State.SamePorts.link h.ports) h.same.clock

/-- The ROBOT notices of reason PHASE that an event raises (R58): one for each bound robot whose enabled flag differs from
the one before, in slot order. -/
def State.enableNotices (s before : State) : List Notice :=
  (allRobots.filter fun r => (s.robot r).bound.isSome && before.enabled r != s.enabled r).map fun r =>
    ⟨.robot, some .phase, some r, none, s.clock.state, s.clock.tenths, some (if s.enabled r = true then 1 else 0)⟩

theorem flatMap_ite {α β : Type} (test : α → Bool) (f : α → β) (xs : List α) :
    (xs.flatMap fun a => if test a = true then [f a] else []) = (xs.filter test).map f := by
  induction xs with
  | nil => rfl
  | cons a xs ih => cases h : test a <;> simp [h, ih]

theorem State.announceEnables_onlyHands (s before : State) :
    s.OnlyHands (s.enableNotices before) (s.announceEnables before) := by
  rw [State.enableNotices, ← flatMap_ite]
  refine State.forEach_onlyHands _ (fun r t ⟨_, ht⟩ => ?_) allRobots
  simp only [State.isBound, ht.robot, ht.enabled]
  split
  · have record : t.notice .robot (some .phase) (some r) none (some (flagValue (t.enabled r))) =
        ⟨.robot, some .phase, some r, none, s.clock.state, s.clock.tenths,
          some (if s.enabled r = true then 1 else 0)⟩ := by
      rw [State.notice, ht.clock, ht.enabled]
      rfl
    rw [← record]
    exact State.raise_onlyHands _ _ _ _ _ t
  · exact .refl t

/-! ## Transitions without a boundary -/

/-- The PHASE notice of a transition (R7): its value is the state left. -/
def State.phaseNotice (s : State) (reason : Reason) (c : Clock) : Notice :=
  ⟨.phase, some reason, none, none, c.state, c.tenths, some ((s.clock.state.code : Nat) : Int)⟩

theorem State.transition_onlyHands (reason : Reason) (c : Clock) (s : State) :
    (s.setClock c).OnlyHands [s.phaseNotice reason c] (s.transition reason c) :=
  State.raise_onlyHands .phase (some reason) none none (some ((s.clock.state.code : Nat) : Int)) (s.setClock c)

/-- An answer changes no queue, and no port beside its frame. -/
theorem State.answered_queue (p q : Port) (bytes : List Byte) (s : State) :
    ((s.answered p bytes).port q).queue = (s.port q).queue := by
  rw [State.answered, State.port_modifyPort]
  split <;> rfl
theorem State.answered_besideQueue (p q : Port) (bytes : List Byte) (s : State) :
    ((s.answered p bytes).port q).besideQueue =
      if q = p then { (s.port q).besideQueue with frame := .answering bytes } else (s.port q).besideQueue := by
  rw [State.answered, State.port_modifyPort]
  split <;> rfl
/-- An answer changes no enabled flag. -/
theorem State.answered_enabled (p : Port) (bytes : List Byte) (s : State) (r : Robot) :
    (s.answered p bytes).enabled r = s.enabled r := by
  refine State.enabled_congr rfl rfl (fun q => ?_) rfl
  rw [State.answered, State.port_modifyPort]
  split <;> rfl
theorem State.SamePorts.answered {s t : State} (h : s.SamePorts t) (p : Port) (bytes : List Byte) :
    (s.answered p bytes).SamePorts (t.answered p bytes) := fun q => by
  rw [State.answered_besideQueue, State.answered_besideQueue, h q]
theorem State.HandedAll.answered {ns : List Notice} {s t : State} (h : s.HandedAll ns t) (p : Port)
    (bytes : List Byte) : s.HandedAll ns (t.answered p bytes) := fun q => by
  rw [State.answered_queue, h q]
theorem State.Handed.answered {n : Notice} {s t : State} (h : s.Handed n t) (p : Port) (bytes : List Byte) :
    s.Handed n (t.answered p bytes) := fun q => by
  rw [State.answered_queue, h q]

/-! # HALT and RESUME (R17, R18, R58) -/

/-- A transition that the roster takes and no other block: its PHASE notice, then the ROBOT notices. -/
theorem State.transition_announced (reason : Reason) (c : Clock) (s : State) :
    (s.setClock c).OnlyHands (s.phaseNotice reason c :: (s.setClock c).enableNotices s)
      ((s.transition reason c).announceEnables s) := by
  have ht := State.transition_onlyHands reason c s
  have hn : (s.transition reason c).enableNotices s = (s.setClock c).enableNotices s := by
    simp only [State.enableNotices, ht.robot, ht.enabled, ht.clock]
  have h := ht.trans (State.announceEnables_onlyHands (s.transition reason c) s)
  rw [hn] at h
  exact h

/-- What HALT and RESUME do: clock and notices, and the answer. -/
theorem State.transition_told (reason : Reason) (c : Clock) (enabled : Bool) (s : State)
    (he : ∀ r, s.enabled r ≠ (s.setClock c).enabled r → (s.setClock c).enabled r = enabled) :
    let t := ((s.transition reason c).announceEnables s).answered 0 [0x00]
    t.clock = c ∧ t = { s with clock := c, ports := t.ports } ∧ (s.answered 0 [0x00]).SamePorts t ∧
    s.HandedAll (s.phaseNotice reason c ::
      (allRobots.filter fun r => (s.robot r).bound.isSome && s.enabled r != t.enabled r).map fun r =>
        ⟨.robot, some .phase, some r, none, c.state, c.tenths, some (if enabled then 1 else 0)⟩) t := by
  have h := State.transition_announced reason c s
  generalize (s.transition reason c).announceEnables s = w at h
  intro t
  have hen : ∀ r, t.enabled r = (s.setClock c).enabled r := fun r =>
    (w.answered_enabled 0 [0x00] r).trans (h.enabled r)
  have hnotes : (s.setClock c).enableNotices s =
      (allRobots.filter fun r => (s.robot r).bound.isSome && s.enabled r != t.enabled r).map fun r =>
        ⟨.robot, some .phase, some r, none, c.state, c.tenths, some (if enabled then 1 else 0)⟩ := by
    simp only [hen]
    refine List.map_congr_left fun r hr => ?_
    obtain ⟨-, hr⟩ := List.mem_filter.mp hr
    simp only [Bool.and_eq_true, bne_iff_ne] at hr
    rw [he r hr.2]
    rfl
  refine ⟨h.clock, ?_, State.SamePorts.answered h.ports 0 _, ?_⟩
  · exact (State.answered_eq 0 [0x00] w).trans (by rw [h.rest]; rfl)
  · rw [← hnotes]
    exact State.HandedAll.answered h.handed 0 _

theorem State.enabled_of_not_live {s : State} (h : s.clock.state.isLive = false) (r : Robot) : s.enabled r = false := by
  simp [State.enabled, h]

/-- The bodies of HALT and RESUME by the match state. -/
theorem State.haltRequest_halts {s : State} {ph : Phase} (h : s.clock.state = ph.state) : s.haltRequest =
    ((s.transition .halt { s.clock with state := .halted, haltedFrom := some ph }).announceEnables s, accept []) := by
  rw [State.haltRequest, MatchState.phase_eq_some.mpr h]
theorem State.haltRequest_halted {s : State} (h : s.clock.state = .halted) : s.haltRequest = (s, ⟨.already, []⟩) := by
  simp [State.haltRequest, h, MatchState.phase]
theorem State.haltRequest_refused {s : State} (h : s.clock.state.isRunning = false) (hh : s.clock.state ≠ .halted) :
    s.haltRequest = (s, refuse .phase) := by
  cases hm : s.clock.state <;> simp_all [State.haltRequest, MatchState.phase, MatchState.isRunning]
theorem State.resumeRequest_resumes {s : State} {ph : Phase} (h : s.clock.state = .halted)
    (hp : s.clock.haltedFrom = some ph) : s.resumeRequest =
    ((s.transition .resume { s.clock with state := ph.state, haltedFrom := none }).announceEnables s, accept []) := by
  rw [State.resumeRequest, h, hp]
theorem State.resumeRequest_refused {s : State} (h : s.clock.state ≠ .halted) :
    s.resumeRequest = (s, refuse .phase) := by
  unfold State.resumeRequest
  split
  · exact absurd ‹_› h
  · rfl

/-- Settles O47. -/
theorem haltAndResume : Obligations.HaltAndResume := by
  intro s hh
  generalize hu : s.examined 0 = v
  intro u c told
  refine ⟨fun ph hm => ⟨_, exec_referee (c := .halt 0) rfl rfl hh hu (State.haltRequest_halts hm), ?_⟩, fun hm => ?_,
    fun hm => ?_, fun ph hm hp =>
      ⟨_, exec_referee (c := .resume 0) rfl rfl hh hu (State.resumeRequest_resumes hm hp), ?_⟩, fun hm => ?_⟩
  · exact State.transition_told .halt _ false v fun r _ => State.enabled_of_not_live rfl r
  · rw [exec_referee (c := .halt 0) rfl rfl hh hu (State.haltRequest_halted hm)]
    rfl
  · have hr : v.clock.state.isRunning = false := by rcases hm with k | k | k | k <;> rw [show v.clock.state = _ from k] <;> rfl
    have hn : v.clock.state ≠ .halted := by rcases hm with k | k | k | k <;> rw [show v.clock.state = _ from k] <;> simp
    rw [exec_referee (c := .halt 0) rfl rfl hh hu (State.haltRequest_refused hr hn)]
    rfl
  · refine State.transition_told .resume _ true v fun r hne => ?_
    rw [State.enabled_of_not_live (s := v) (by rw [show v.clock.state = _ from hm]; rfl)] at hne
    simpa using hne.symm
  · rw [exec_referee (c := .resume 0) rfl rfl hh hu (State.resumeRequest_refused hm)]
    rfl

end Sys2Proof.Machine

namespace Sys2Proof.Machine

/-! # FINALISE and NEW MATCH (R20, R21) -/

/-- The bodies of FINALISE and NEW MATCH by the match state. -/
theorem State.newMatchRequest_opens {s : State} (h : s.clock.state = .setup ∨ s.clock.state = .closed) :
    s.newMatchRequest = ((s.transition .newMatch ⟨.setup, 0, none, false, 0⟩).newMatchEvent, accept []) :=
  if_pos (by simpa using h)
theorem State.newMatchRequest_refused {s : State} (h : ¬ (s.clock.state = .setup ∨ s.clock.state = .closed)) :
    s.newMatchRequest = (s, refuse .phase) := if_neg (by simpa using h)

/-- The PHASE notice of a transition enters the queues by the bindings and masks of the state left (R7, R177). -/
theorem State.transition_handed (reason : Reason) (c : Clock) (s : State) :
    s.Handed (s.phaseNotice reason c) (s.transition reason c) :=
  State.raise_handed .phase (some reason) none none (some ((s.clock.state.code : Nat) : Int)) (s.setClock c)

/-- A port after the new-match event (R43). -/
theorem State.newMatchEvent_port (s : State) (q : Port) :
    s.newMatchEvent.port q = { s.port q with silence := 0, link := .live, silenceDue := false } :=
  rewriteAll_get _ s.ports q
/-- An element after the new-match event (R86, R113, R134). -/
theorem State.newMatchEvent_element (s : State) (e : Elem) :
    s.newMatchEvent.element e = s.elementAtNewMatch (s.element e) := rewriteAll_get _ s.elements e
theorem State.newMatchEvent_robot (s : State) (r : Robot) : s.newMatchEvent.robot r = .reset := replicate_get _ _
theorem State.newMatchEvent_scores (s : State) (a : Alliance) :
    s.newMatchEvent.accumulators.get a = 0 ∧ s.newMatchEvent.published.get a = 0 :=
  ⟨replicate_get _ _, replicate_get _ _⟩
/-- A motion after the new-match event: one under way or braking is stopped (R113). -/
theorem Motion.atNewMatch_eq (m : Motion) :
    m.atNewMatch = if m.moving.isSome = true ∨ m.pending.isSome = true then .stopped else m := by
  cases m <;> simp [Motion.atNewMatch, Motion.moving, Motion.pending]
/-- The claim state after the new-match event (R86). -/
theorem State.claimAtNewMatch_eq (s : State) (x : Element) : s.claimAtNewMatch x =
    if x.header.kind ≠ .none ∧ (s.stop x.header.group).asserted = true then .blocked .field else .inert := by
  simp [State.claimAtNewMatch]
theorem State.elementAtNewMatch_eq (s : State) (x : Element) : s.elementAtNewMatch x = { x with
    claim := ⟨if x.header.kind ≠ .none ∧ (s.stop x.header.group).asserted = true then .blocked .field else .inert,
      none, []⟩
    timer := ⟨false, 0⟩
    motion := if x.header.kind = .gate ∧ (x.motion.moving.isSome = true ∨ x.motion.pending.isSome = true) then
      .stopped else x.motion
    purpose := .none, shots := 0, quotaMark := false, feed := .stopped, feedPending := false, pieces := 0,
    orphans := 0, pulse := ⟨.idle, 0, 0, .first, false, false, none⟩, test := none } := by
  rw [State.elementAtNewMatch, State.claimAtNewMatch_eq, Motion.atNewMatch_eq]
  simp only [ite_and]
  rfl

/-- Settles O48. -/
theorem finaliseAndNewMatch : Obligations.FinaliseAndNewMatch := by
  intro s hh
  generalize hu : s.examined 0 = v
  intro u c phase opens closed fresh
  refine ⟨fun hm => ⟨_, exec_referee (c := .finalise 0) rfl rfl hh hu (if_pos hm), ?_⟩, fun hm => ?_, fun hm => ?_,
    fun hm => ⟨_, exec_referee (c := .newMatch 0) rfl rfl hh hu (State.newMatchRequest_opens hm), ?_⟩⟩
  · have h := State.transition_onlyHands .finalise closed v
    have hq := State.transition_handed .finalise closed v
    change (v.transition .finalise closed).answered 0 [0x00] = _ ∧ _ ∧ _
    generalize v.transition .finalise closed = w at h hq
    exact ⟨(State.answered_eq 0 [0x00] w).trans (by rw [h.rest]; rfl), State.SamePorts.answered h.ports 0 _,
      State.Handed.answered hq 0 _⟩
  · rw [exec_referee (c := .finalise 0) rfl rfl hh hu (if_neg hm)]
    rfl
  · rw [exec_referee (c := .newMatch 0) rfl rfl hh hu (State.newMatchRequest_refused hm)]
    rfl
  · have h := State.transition_onlyHands .newMatch fresh v
    have hq := State.transition_handed .newMatch fresh v
    change ((v.transition .newMatch fresh).newMatchEvent.answered 0 [0x00]).clock = _ ∧ _ ∧ _ ∧ _ ∧ _ ∧ _ ∧ _
    generalize v.transition .newMatch fresh = w at h hq
    have port := w.newMatchEvent_port
    refine ⟨h.clock, State.Handed.answered (fun q => ?_) 0 _, w.newMatchEvent_scores, w.newMatchEvent_robot,
      fun q => ?_, fun e => ?_, ?_⟩
    · rw [port]
      exact hq q
    · have hp : (w.port q).besideQueue = (v.port q).besideQueue := h.ports q
      have beside : (w.newMatchEvent.port q).besideQueue =
          { (v.port q).besideQueue with silence := 0, link := .live, silenceDue := false } := by
        rw [port, ← hp]
        rfl
      rw [State.answered_besideQueue, State.answered_besideQueue, beside]
      split <;> rfl
    · have he : w.element e = v.element e := by rw [h.rest]; rfl
      have hg : ∀ g, w.stop g = v.stop g := fun g => by rw [h.rest]; rfl
      change w.newMatchEvent.element e = _
      rw [State.newMatchEvent_element, State.elementAtNewMatch_eq, he, hg]
    · rw [h.rest]
      exact ⟨rfl, rfl, rfl, rfl, rfl, rfl⟩

end Sys2Proof.Machine

namespace Sys2Proof.Machine

/-! # The arbiter does not read the notice queues

Two runs of an operation from states that differ in their notice queues alone end in such states again, and hand the same
records. -/

/-- Nothing but the notice queues differs. -/
structure State.SameButQueues (s t : State) : Prop where
  rest : t = { s with ports := t.ports }
  ports : s.SamePorts t

theorem State.SameButQueues.refl (s : State) : s.SameButQueues s := ⟨rfl, fun _ => rfl⟩
theorem State.OnlyHands.sameButQueues {ns : List Notice} {s t : State} (h : s.OnlyHands ns t) : s.SameButQueues t :=
  ⟨h.rest, h.ports⟩

section
variable {s t : State} (h : s.SameButQueues t)
include h

theorem State.SameButQueues.element (e : Elem) : t.element e = s.element e := by rw [h.rest]; rfl
theorem State.SameButQueues.claim (e : Elem) : t.claim e = s.claim e := by rw [h.rest]; rfl
theorem State.SameButQueues.robot (r : Robot) : t.robot r = s.robot r := by rw [h.rest]; rfl
theorem State.SameButQueues.clock : t.clock = s.clock := by rw [h.rest]
theorem State.SameButQueues.activeProfile (e : Elem) : t.activeProfile e = s.activeProfile e := by rw [h.rest]; rfl
theorem State.SameButQueues.mayUse (p : Profile) : t.mayUse p = s.mayUse p := by rw [h.rest]; rfl
theorem State.SameButQueues.nextHolder (e : Elem) : t.nextHolder e = s.nextHolder e := by
  have key : ∀ r k, t.precedence e r k = s.precedence e r k := fun r k => by rw [h.rest]; rfl
  have best : ∀ (ws : List Robot) (k : Nat) (best : Robot × Nat), t.bestOf e k best ws = s.bestOf e k best ws := by
    intro ws
    induction ws with
    | nil => exact fun _ _ => rfl
    | cons r ws ih =>
      intro k best
      simp only [State.bestOf, key, ih]
  simp only [State.nextHolder, h.claim, best]
theorem State.SameButQueues.notice (k : NoticeKind) (re : Option Reason) (r : Option Robot) (e : Option Elem)
    (v : Option Int) : t.notice k re r e v = s.notice k re r e v := by rw [State.notice, h.clock]; rfl
theorem State.SameButQueues.routes (n : Notice) (q : Port) : t.routes n q = s.routes n q :=
  State.routes_congr (fun r => by rw [h.robot]) (State.SamePorts.subscription h.ports) n q

end

/-- A gate that begins homing at the arm event (R97). -/
abbrev Element.BeginsHoming (x : Element) : Prop :=
  x.header.kind = .gate ∧ x.motion ≠ .atRest ∧ x.claim.state ≠ .returning ∧ x.claim.state.isBlocked = false
theorem State.homeGate_eq (e : Elem) (s : State) :
    s.homeGate e = if (s.element e).BeginsHoming then s.startMotion e .back .home else s := by
  unfold State.homeGate
  by_cases hb : (s.element e).BeginsHoming
  · rw [if_pos hb]
    obtain ⟨hk, hm, hr, hn⟩ := hb
    cases hc : (s.element e).claim.state <;> simp_all [ClaimState.isBlocked]
  · rw [if_neg hb]
    cases hc : (s.element e).claim.state <;> simp_all [ClaimState.isBlocked, Element.BeginsHoming]

/-- The records that the claim arbiter hands (Table 10-1). -/
def Notice.ofArbiter (n : Notice) : Prop :=
  n.kind = .grant ∨ n.kind = .lost ∨ n.kind = .dropped ∨ n.kind = .element

/-- A step of the arbiter from `s` to `t` and its twin from `s'` to `t'`, which has other queues: both hand the same
records, and nothing else differs. -/
structure State.Twins (s s' t t' : State) : Prop where
  before : s.SameButQueues s'
  after : t.SameButQueues t'
  plays : s.Arbitrates t
  handed : ∃ ns, (∀ n ∈ ns, Notice.ofArbiter n) ∧ s.HandedAll ns t ∧ s'.HandedAll ns t'

theorem State.Twins.trans {s s' t t' u u' : State} (h : s.Twins s' t t') (k : t.Twins t' u u') : s.Twins s' u u' := by
  obtain ⟨ns, hk, hs, hs'⟩ := h.handed
  obtain ⟨ms, kk, ks, ks'⟩ := k.handed
  refine ⟨h.before, k.after, h.plays.trans k.plays, ns ++ ms, fun n hn => ?_, hs.append ks h.plays.plays.routes,
    hs'.append ks' fun n q => ?_⟩
  · exact (List.mem_append.mp hn).elim (hk n) (kk n)
  · rw [h.after.routes, h.plays.plays.routes, h.before.routes]

section
variable {s s' : State} (h : s.SameButQueues s')
include h

theorem State.SameButQueues.twins_refl : s.Twins s' s s' :=
  ⟨h, h, .refl s, [], by simp, .nil fun _ => rfl, .nil fun _ => rfl⟩
theorem State.SameButQueues.modifyElement (e : Elem) (f : Element → Element)
    (hf : (s.element e).SamePlan (f (s.element e))) : s.Twins s' (s.modifyElement e f) (s'.modifyElement e f) := by
  refine ⟨h, ⟨?_, h.ports⟩, State.modifyElement_arbitrates s hf, [], by simp, .nil fun _ => rfl, .nil fun _ => rfl⟩
  conv_lhs => rw [h.rest]
  rfl
theorem State.SameButQueues.setClaim (e : Elem) (c : ClaimRecord) :
    s.Twins s' (s.setClaim e c) (s'.setClaim e c) := by
  refine ⟨h, ⟨?_, h.ports⟩, State.setClaim_arbitrates e c s, [], by simp, .nil fun _ => rfl, .nil fun _ => rfl⟩
  conv_lhs => rw [h.rest]
  rfl
theorem State.SameButQueues.setClaimState (e : Elem) (c : ClaimState) :
    s.Twins s' (s.setClaimState e c) (s'.setClaimState e c) := by
  rw [State.setClaimState, State.setClaimState, h.claim]
  exact h.setClaim _ _
theorem State.SameButQueues.setTimer (e : Elem) (t : ClaimTimer) : s.Twins s' (s.setTimer e t) (s'.setTimer e t) :=
  h.modifyElement e _ ⟨rfl, rfl, rfl, rfl, rfl, rfl⟩
theorem State.SameButQueues.hand {n : Notice} (hn : n.ofArbiter) : s.Twins s' (s.hand n) (s'.hand n) := by
  refine ⟨h, ⟨?_, fun q => ?_⟩, State.hand_arbitrates n s, [n], by simpa using hn, .single (State.hand_handed n s),
    .single (State.hand_handed n s')⟩
  · refine (State.hand_eq n s').trans ?_
    generalize (s'.hand n).ports = ports
    rw [h.rest]
    rfl
  · rw [State.hand_samePorts, h.ports, State.hand_samePorts]
theorem State.SameButQueues.raise (k : NoticeKind) (re : Option Reason) (r : Option Robot) (e : Option Elem)
    (v : Option Int) (hk : k = .grant ∨ k = .lost ∨ k = .dropped ∨ k = .element) :
    s.Twins s' (s.raise k re r e v) (s'.raise k re r e v) := by
  rw [State.raise, State.raise, h.notice]
  exact h.hand hk

/-! ## Drops and blocks (R72, R79, R80) -/

omit h in
theorem State.SameButQueues.raiseDrops (e : Elem) (re : Reason) (keep : Robot → Bool) (k : Nat) (ws : List Robot)
    {s s' : State} (h : s.SameButQueues s') :
    s.Twins s' (s.raiseDrops e re keep k ws) (s'.raiseDrops e re keep k ws) := by
  induction ws generalizing k s s' with
  | nil => exact h.twins_refl
  | cons r ws ih =>
    unfold State.raiseDrops
    split
    · exact ih (k + 1) h
    · have hr := h.raise .dropped (some re) (some r) (some e) (some (k : Int)) (.inr (.inr (.inl rfl)))
      exact hr.trans (ih (k + 1) hr.after)
theorem State.SameButQueues.dropWaiters (e : Elem) (re : Reason) (keep : Robot → Bool) :
    s.Twins s' (s.dropWaiters e re keep) (s'.dropWaiters e re keep) := by
  unfold State.dropWaiters
  rw [h.claim]
  have hc := h.setClaim e { s.claim e with waiters := (s.claim e).waiters.filter keep }
  exact hc.trans (State.SameButQueues.raiseDrops e re keep 1 _ hc.after)
theorem State.SameButQueues.dropAll (e : Elem) (re : Reason) : s.Twins s' (s.dropAll e re) (s'.dropAll e re) :=
  h.dropWaiters e re _
theorem State.SameButQueues.enterBlocked (e : Elem) (c : BlockCause) :
    s.Twins s' (s.enterBlocked e c) (s'.enterBlocked e c) := by
  have h1 := h.dropAll e c.cause.reason
  have h2 := h1.trans (h1.after.setTimer e .stopped)
  have h3 := h2.trans (h2.after.setClaimState e (.blocked c))
  exact h3.trans (h3.after.raise _ _ _ _ _ (.inr (.inr (.inr rfl))))
theorem State.SameButQueues.removeHolder (e : Elem) (r : Robot) (c : Cause) :
    s.Twins s' (s.removeHolder e r c) (s'.removeHolder e r c) := by
  unfold State.removeHolder
  rw [h.claim, h.robot]
  have h1 := h.setClaim e { s.claim e with state := .returning, lastAlliance := (s.robot r).alliance }
  have h2 := h1.trans (h1.after.raise .lost (some c.reason) (some r) (some e) none (.inr (.inl rfl)))
  exact h2.trans (h2.after.modifyElement e _ (Element.claimEnded_samePlan _))
theorem State.SameButQueues.takeBlock (e : Elem) (c : BlockCause) :
    s.Twins s' (s.takeBlock e c) (s'.takeBlock e c) := by
  unfold State.takeBlock
  rw [h.claim]
  cases (s.claim e).state with
  | held r =>
    have h1 := h.removeHolder e r c.cause
    exact h1.trans (h1.after.enterBlocked e c)
  | inert | free | returning => exact h.enterBlocked e c
  | blocked => exact h.setClaimState e _

/-! ## The end of RETURNING (R75 to R77) -/

theorem State.SameButQueues.makeHolder (e : Elem) (r : Robot) :
    s.Twins s' (s.makeHolder e r) (s'.makeHolder e r) := by
  unfold State.makeHolder
  rw [h.claim, h.activeProfile]
  have h1 := h.setClaim e { s.claim e with state := .held r, waiters := (s.claim e).waiters.filter (· ≠ r) }
  exact h1.trans (h1.after.setTimer e _)
theorem State.SameButQueues.tellGrant (e : Elem) : s.Twins s' (s.tellGrant e) (s'.tellGrant e) := by
  unfold State.tellGrant
  rw [h.activeProfile]
  exact h.modifyElement e _ (Element.granted_samePlan _ _)
theorem State.SameButQueues.grantWaiter (e : Elem) (r : Robot) :
    s.Twins s' (s.grantWaiter e r) (s'.grantWaiter e r) := by
  unfold State.grantWaiter
  rw [h.activeProfile]
  have h1 := h.makeHolder e r
  have h2 := h1.trans (h1.after.raise .grant none (some r) (some e)
    (some (((s.activeProfile e).holdS : Nat) : Int)) (.inl rfl))
  exact h2.trans (h2.after.tellGrant e)
theorem State.SameButQueues.settleReturn (e : Elem) : s.Twins s' (s.settleReturn e) (s'.settleReturn e) := by
  unfold State.settleReturn
  rw [h.activeProfile, h.nextHolder]
  split
  · cases s.nextHolder e with
    | none =>
      have h1 := h.setClaimState e .free
      exact h1.trans (h1.after.setTimer e _)
    | some r => exact h.grantWaiter e r
  · have h1 := h.dropAll e .phase
    have h2 := h1.trans (h1.after.setClaimState e .inert)
    exact h2.trans (h2.after.setTimer e _)
theorem State.SameButQueues.finishReturn (e : Elem) : s.Twins s' (s.finishReturn e) (s'.finishReturn e) := by
  unfold State.finishReturn
  rw [h.element]
  split
  · exact h.settleReturn e
  · exact h.twins_refl

/-! ## The ending of a claim (R68, R73, R96) -/

theorem State.SameButQueues.jam (e : Elem) : s.Twins s' (s.jam e) (s'.jam e) := by
  have h1 := h.modifyElement e _ (Element.halted_samePlan _)
  exact h1.trans (h1.after.takeBlock e .jam)
theorem State.SameButQueues.startMotion (e : Elem) (d : Direction) (q : Purpose) :
    s.Twins s' (s.startMotion e d q) (s'.startMotion e d q) := by
  unfold State.startMotion
  rw [h.element]
  dsimp only
  split
  · exact h.jam e
  · split
    · exact h.modifyElement e _ (Element.arrive_samePlan _ _)
    · exact h.modifyElement e _ (Element.drive_samePlan _ _ _)
theorem State.SameButQueues.beginReturn (e : Elem) : s.Twins s' (s.beginReturn e) (s'.beginReturn e) := by
  unfold State.beginReturn
  rw [h.element]
  cases (s.element e).motion with
  | atRest | movingBack | braking => exact h.modifyElement e _ ⟨rfl, rfl, rfl, rfl, rfl, rfl⟩
  | atOut | unknown | stopped => exact h.startMotion e _ _
  | movingOut => exact h.modifyElement e _ (Element.reverse_samePlan _ _ _)
theorem State.SameButQueues.enterReturning (e : Elem) (t : ClaimTimer) :
    s.Twins s' (s.enterReturning e t) (s'.enterReturning e t) := by
  have h1 := h.setClaimState e .returning
  unfold State.enterReturning
  dsimp only
  rw [h1.after.element]
  cases ((s.setClaimState e .returning).element e).header.kind with
  | gate =>
    have h2 := h1.trans (h1.after.setTimer e .stopped)
    exact h2.trans (h2.after.beginReturn e)
  | none | dispenser | goal | beacon => exact h1.trans (h1.after.setTimer e t)
theorem State.SameButQueues.leaveHolder (e : Elem) (r : Robot) (c : Cause) :
    s.Twins s' (s.leaveHolder e r c) (s'.leaveHolder e r c) := by
  have h1 := h.removeHolder e r c
  unfold State.leaveHolder State.endsBeforeTick
  dsimp only
  rw [h.element, h1.after.activeProfile]
  exact h1.trans (h1.after.enterReturning e _)

/-! ## Boundaries and homing (R83, R84, R97) -/

theorem State.SameButQueues.claimAtLive (e : Elem) : s.Twins s' (s.claimAtLive e) (s'.claimAtLive e) := by
  unfold State.claimAtLive
  dsimp only
  rw [h.claim]
  have h1 := h.setClaim e { s.claim e with lastAlliance := none }
  generalize s.setClaim e { s.claim e with lastAlliance := none } = a at h1
  generalize s'.setClaim e { s.claim e with lastAlliance := none } = a' at h1
  refine h1.trans ?_
  have ha := h1.after
  rw [ha.claim, ha.activeProfile, ha.mayUse]
  cases (a.claim e).state with
  | blocked => exact ha.twins_refl
  | held r =>
    dsimp only
    split
    · have h2 := ha.setTimer e (.load ((a.activeProfile e).holdS * 1000))
      exact h2.trans (h2.after.dropWaiters e _ _)
    · have h2 := ha.leaveHolder e r .phase
      have h3 := h2.trans (h2.after.dropWaiters e .phase (a.mayUse (a.activeProfile e)))
      exact h3.trans (h3.after.finishReturn e)
  | returning => exact ha.dropWaiters e _ _
  | free | inert => exact ha.setClaimState e _
theorem State.SameButQueues.claimAtStop (e : Elem) : s.Twins s' (s.claimAtStop e) (s'.claimAtStop e) := by
  unfold State.claimAtStop
  rw [h.claim]
  cases (s.claim e).state with
  | blocked | inert => exact h.twins_refl
  | held r =>
    have h1 := h.leaveHolder e r .phase
    have h2 := h1.trans (h1.after.dropAll e .phase)
    exact h2.trans (h2.after.finishReturn e)
  | returning => exact h.dropAll e _
  | free => exact h.setClaimState e _
theorem State.SameButQueues.homeGate (e : Elem) : s.Twins s' (s.homeGate e) (s'.homeGate e) := by
  rw [State.homeGate_eq, State.homeGate_eq, h.element]
  split
  · exact h.startMotion e _ _
  · exact h.twins_refl

end

theorem State.SameButQueues.forEach {ι : Type} {act : ι → State → State}
    (step : ∀ i {s s' : State}, s.SameButQueues s' → s.Twins s' (act i s) (act i s')) (xs : List ι) {s s' : State}
    (h : s.SameButQueues s') : s.Twins s' (s.forEach xs act) (s'.forEach xs act) := by
  induction xs generalizing s s' with
  | nil => exact h.twins_refl
  | cons i xs ih => exact (step i h).trans (ih (step i h).after)

/-- The arbiter at a boundary does not read the queues. -/
theorem State.SameButQueues.claimsAtBoundary {s s' : State} (h : s.SameButQueues s') :
    s.Twins s' s.claimsAtBoundary s'.claimsAtBoundary := by
  unfold State.claimsAtBoundary
  rw [h.clock]
  split
  · exact h.forEach (fun e _ _ h => h.claimAtLive e) _
  · exact h.forEach (fun e _ _ h => h.claimAtStop e) _

end Sys2Proof.Machine

namespace Sys2Proof.Machine

/-! # The state that roster and arbiter find at a boundary, record by record -/

/-- A port that differs in its queue alone. -/
theorem PortRecord.eq_of_besideQueue {x y : PortRecord} (h : y.besideQueue = x.besideQueue) :
    y = { x with queue := y.queue } := by
  have := congrArg (fun z : PortRecord => { z with queue := y.queue }) h
  exact this
theorem State.HandedAll.port {ns : List Notice} {s t : State} (h : s.HandedAll ns t) (hp : s.SamePorts t) (q : Port) :
    t.port q = { s.port q with queue := (ns.filter fun n => s.routes n q).foldl enqueue (s.port q).queue } := by
  rw [← h q]
  exact PortRecord.eq_of_besideQueue (hp q)

/-! ## The stage (R37, R40) -/

/-- The entries of a stage written into the plan, element by element, for the elements of a list without repetition. -/
theorem State.forEach_setPlan_element (entries : Vector (Option Profile) 24) (ph : LivePhase) {xs : List Elem}
    (distinct : xs.Nodup) (s : State) (e : Elem) :
    (s.forEach (xs.filterMap fun e => (entries.get e).map fun p => (e, p)) fun entry s =>
        s.modifyElement entry.1 fun x => x.setPlan ph entry.2).element e =
      if e ∈ xs then (s.element e).setPlan ph ((entries.get e).getD ((s.element e).plan ph)) else s.element e := by
  have same : ∀ x : Element, x.setPlan ph (x.plan ph) = x := fun x => by cases ph <;> rfl
  induction xs generalizing s with
  | nil => rfl
  | cons i xs ih =>
    obtain ⟨hi, hd⟩ := List.nodup_cons.mp distinct
    cases hp : entries.get i with
    | none =>
      rw [List.filterMap_cons_none (by simp [hp]), ih hd]
      by_cases hei : e = i
      · subst hei
        simp [hi, hp, same]
      · simp [hei]
    | some p =>
      rw [List.filterMap_cons_some (b := (i, p)) (by simp [hp]), State.forEach_cons, ih hd]
      by_cases hei : e = i
      · subst hei
        simp [hi, hp]
      · simp [hei, State.element_modifyElement_ne _ _ _ _ hei]

/-- A plan profile overwritten for one live phase. -/
theorem Element.setPlan_eq (x : Element) (ph : LivePhase) (p : Profile) : x.setPlan ph p =
    { x with planAuto := if ph = .auto then p else x.plan .auto
             planDrive := if ph = .drive then p else x.plan .drive
             planEndgame := if ph = .endgame then p else x.plan .endgame } := by
  cases ph <;> rfl

/-- A stage that is not SEALED is not applied (R37). -/
theorem State.applyStage_unsealed {s : State} (h : s.stage.state ≠ .sealed) (ph : LivePhase) : s.applyStage ph = s := by
  unfold State.applyStage
  split
  · exact absurd ‹_› h
  all_goals rfl
/-- The application of a SEALED stage: the plan overwritten, the stage cleared, the STAGE notice raised (R37, R41). -/
theorem State.applyStage_sealed {s : State} (h : s.stage.state = .sealed) (ph : LivePhase) : s.applyStage ph =
    ({ s.forEach s.stage.listed fun entry s => s.modifyElement entry.1 fun x => x.setPlan ph entry.2 with
        stage := .reset }).raise .stage (some .applied) none none (some ((s.stage.count : Nat) : Int)) := by
  rw [State.applyStage, h]

/-- The plan profile of a live phase after a boundary: the staged one where a SEALED stage is applied to that phase. -/
def State.planAtBoundary (s : State) (e : Elem) (ph : LivePhase) : Profile :=
  if (s.stage.state = .sealed ∧ s.clock.state.isLive = true) ∧ ph.state = s.clock.state then
    (s.stage.entries.get e).getD ((s.element e).plan ph)
  else (s.element e).plan ph
/-- An element with its plan of after a boundary. -/
def State.elementAtBoundary (s : State) (e : Elem) : Element :=
  { s.element e with
      planAuto := s.planAtBoundary e .auto
      planDrive := s.planAtBoundary e .drive
      planEndgame := s.planAtBoundary e .endgame }
theorem State.elementAtBoundary_unapplied {s : State} (h : ¬ (s.stage.state = .sealed ∧ s.clock.state.isLive = true))
    (e : Elem) : s.elementAtBoundary e = s.element e := by
  simp only [State.elementAtBoundary, State.planAtBoundary, h, false_and, if_false]
  rfl
theorem LivePhase.state_inj {ph ph' : LivePhase} : ph.state = ph'.state ↔ ph = ph' := by
  cases ph <;> cases ph' <;> simp [LivePhase.state]
theorem State.elementAtBoundary_applied {s : State} {ph : LivePhase} (hs : s.stage.state = .sealed)
    (hp : ph.state = s.clock.state) (e : Elem) : s.elementAtBoundary e =
      (s.element e).setPlan ph ((s.stage.entries.get e).getD ((s.element e).plan ph)) := by
  have hl : s.clock.state.isLive = true := by rw [← MatchState.live_isSome, MatchState.live_eq_some.mpr hp]; rfl
  rw [Element.setPlan_eq]
  simp only [State.elementAtBoundary, State.planAtBoundary, hs, hl, and_self, true_and]
  simp only [← hp, LivePhase.state_inj]
  cases ph <;> rfl

/-- The elements after the plan store took a boundary: a SEALED stage overwrites the plan of the live phase (R37). -/
theorem State.stageAtBoundary_element (s : State) (e : Elem) : s.stageAtBoundary.element e = s.elementAtBoundary e := by
  unfold State.stageAtBoundary
  cases hl : s.clock.state.live with
  | none =>
    have hlive : s.clock.state.isLive = false := by rw [← MatchState.live_isSome, hl]; rfl
    rw [State.elementAtBoundary_unapplied (by simp [hlive])]
    dsimp only
    split
    · rw [State.voidStage_eq]
      rfl
    · rfl
  | some ph =>
    dsimp only
    by_cases hs : s.stage.state = .sealed
    · rw [State.elementAtBoundary_applied hs (MatchState.live_eq_some.mp hl), State.applyStage_sealed hs]
      have h := State.forEach_setPlan_element s.stage.entries ph allElems_nodup s e
      rw [if_pos (mem_allElems e)] at h
      exact h
    · rw [State.elementAtBoundary_unapplied (by simp [hs]), State.applyStage_unsealed hs]

/-- The STAGE notice of a boundary (R37, R40, R41). -/
def State.stageNotices (s : State) : List Notice :=
  if s.stage.state = .sealed ∧ s.clock.state.isLive = true then
    [⟨.stage, some .applied, none, none, s.clock.state, s.clock.tenths, some ((s.stage.count : Nat) : Int)⟩]
  else if s.stage.state ≠ .empty ∧ s.clock.state = .finished then
    [⟨.stage, some .void, none, none, s.clock.state, s.clock.tenths, some ((s.stage.count : Nat) : Int)⟩]
  else []

/-- A record handed after writes that leave bindings, ports and clock as they were. -/
theorem State.hands_after {s u : State} (hr : u.robots = s.robots) (hp : u.ports = s.ports) (hc : u.clock = s.clock)
    (k : NoticeKind) (re : Option Reason) (v : Option Int) :
    s.SamePorts (u.raise k re none none v) ∧
    s.HandedAll [⟨k, re, none, none, s.clock.state, s.clock.tenths, v⟩] (u.raise k re none none v) := by
  have h := State.raise_onlyHands k re none none v u
  have port : ∀ q, u.port q = s.port q := fun q => by rw [State.port, hp]; rfl
  have routes : ∀ n q, u.routes n q = s.routes n q :=
    State.routes_congr (fun r => by rw [State.robot, hr]; rfl) fun q => by rw [port]
  rw [State.notice, hc] at h
  refine ⟨fun q => (h.ports q).trans (by rw [port]), fun q => ?_⟩
  rw [h.handed q, port]
  simp only [routes]

/-- The voiding of a stage hands one STAGE notice and changes no port beside its queue (R40, R41). -/
theorem State.voidStage_hands (s : State) : s.SamePorts s.voidStage ∧
    s.HandedAll (if s.stage.state = .empty then [] else
      [⟨.stage, some .void, none, none, s.clock.state, s.clock.tenths, some ((s.stage.count : Nat) : Int)⟩])
      s.voidStage := by
  unfold State.voidStage
  cases hst : s.stage.state with
  | empty => exact ⟨fun _ => rfl, fun _ => rfl⟩
  | opened | sealed =>
    rw [if_neg (by simp)]
    exact State.hands_after rfl rfl rfl _ _ _

/-- What the plan store hands at a boundary, and that it changes no port beside its queue. -/
theorem State.stageAtBoundary_hands (s : State) :
    s.SamePorts s.stageAtBoundary ∧ s.HandedAll s.stageNotices s.stageAtBoundary := by
  have idle : s.SamePorts s ∧ s.HandedAll [] s := ⟨fun _ => rfl, fun _ => rfl⟩
  unfold State.stageAtBoundary
  cases hl : s.clock.state.live with
  | some ph =>
    have hlive : s.clock.state.isLive = true := by rw [← MatchState.live_isSome, hl]; rfl
    have hf : s.clock.state ≠ .finished := by rw [← MatchState.live_eq_some.mp hl]; cases ph <;> simp [LivePhase.state]
    dsimp only
    by_cases hs : s.stage.state = .sealed
    · rw [State.stageNotices, if_pos ⟨hs, hlive⟩]
      rw [State.applyStage_sealed hs]
      refine State.hands_after ?_ ?_ ?_ _ _ _
      all_goals
        dsimp only
        rw [State.forEach_modifyElement_eq]
    · rw [State.stageNotices, if_neg fun h => hs h.1, if_neg fun h => hf h.2]
      rw [State.applyStage_unsealed hs]
      exact idle
  | none =>
    have hlive : s.clock.state.isLive = false := by rw [← MatchState.live_isSome, hl]; rfl
    have unapplied : ¬ (s.stage.state = .sealed ∧ s.clock.state.isLive = true) := by simp [hlive]
    dsimp only
    rw [State.stageNotices, if_neg unapplied]
    by_cases hf : s.clock.state = .finished
    · have h := s.voidStage_hands
      rw [if_pos hf]
      by_cases hst : s.stage.state = .empty
      · rw [if_pos hst] at h
        rw [if_neg fun k => k.1 hst]
        exact h
      · rw [if_neg hst] at h
        rw [if_pos ⟨hst, hf⟩]
        exact h
    · rw [if_neg hf, if_neg fun k => hf k.2]
      exact idle

/-! ## Snapshots and silence timers (R55, R183) -/

/-- A port with its snapshot entries rewritten. -/
def PortRecord.mapSnapshot (f : SnapEntry → SnapEntry) (x : PortRecord) : PortRecord :=
  { x with snapshot := x.snapshot.map f }
theorem PortRecord.mapSnapshot_mapSnapshot (f g : SnapEntry → SnapEntry) (x : PortRecord) :
    (x.mapSnapshot g).mapSnapshot f = x.mapSnapshot (f ∘ g) := by
  simp [PortRecord.mapSnapshot]
theorem PortRecord.mapSnapshot_id (x : PortRecord) : x.mapSnapshot id = x := by
  simp [PortRecord.mapSnapshot]
theorem State.voidSnapshots_port (e : Elem) (s : State) (q : Port) : (s.voidSnapshots e).port q =
    (s.port q).mapSnapshot fun y => if y.element = e then y.void else y := rewriteAll_get _ s.ports q

/-- A port after the snapshot entries of the changed elements of a list are voided. -/
theorem State.forEach_voidSnapshots_port (changed : Elem → Prop) [DecidablePred changed] (xs : List Elem) (s : State)
    (q : Port) : (s.forEach xs fun e s => if changed e then s.voidSnapshots e else s).port q =
      (s.port q).mapSnapshot fun y => if y.element ∈ xs ∧ changed y.element then y.void else y := by
  induction xs generalizing s with
  | nil =>
    simp only [List.not_mem_nil, false_and, if_false]
    exact (PortRecord.mapSnapshot_id _).symm
  | cons e xs ih =>
    rw [State.forEach_cons, ih]
    by_cases hc : changed e
    · rw [if_pos hc, State.voidSnapshots_port, PortRecord.mapSnapshot_mapSnapshot]
      congr 1
      funext y
      by_cases hy : y.element = e
      · simp [hy, hc, SnapEntry.void]
      · simp [hy]
    · rw [if_neg hc]
      congr 1
      funext y
      by_cases hy : y.element = e
      · simp [hy, hc]
      · simp [hy]

/-- The run of `voidChanged` compares with the active profiles that it finds, which it does not change. -/
theorem State.voidChanged_forEach (s before : State) : s.voidChanged before =
    s.forEach allElems fun e t => if before.activeProfile e ≠ s.activeProfile e then t.voidSnapshots e else t := by
  suffices h : ∀ (xs : List Elem) (t : State), t = { s with ports := t.ports } →
      (t.forEach xs fun e t => if before.activeProfile e = t.activeProfile e then t else t.voidSnapshots e) =
        t.forEach xs fun e t => if before.activeProfile e ≠ s.activeProfile e then t.voidSnapshots e else t from
    h allElems s rfl
  intro xs
  induction xs with
  | nil => exact fun _ _ => rfl
  | cons e xs ih =>
    intro t ht
    have active : t.activeProfile e = s.activeProfile e := by rw [ht]; rfl
    rw [State.forEach_cons, State.forEach_cons, active]
    by_cases hc : before.activeProfile e = s.activeProfile e
    · rw [if_pos hc, if_neg (not_not_intro hc)]
      exact ih t ht
    · rw [if_neg hc, if_pos hc]
      exact ih _ (by rw [State.voidSnapshots_eq, ht])
/-- The snapshot entries whose element has another active profile than before are VOID (R183). -/
theorem State.voidChanged_port (s before : State) (q : Port) : (s.voidChanged before).port q =
    (s.port q).mapSnapshot fun y =>
      if before.activeProfile y.element = s.activeProfile y.element then y else ⟨y.element, none⟩ := by
  rw [State.voidChanged_forEach, State.forEach_voidSnapshots_port]
  congr 1
  funext y
  by_cases hy : before.activeProfile y.element = s.activeProfile y.element <;> simp [hy, mem_allElems, SnapEntry.void]
theorem State.reloadSilence_port (s : State) (q : Port) : s.reloadSilence.port q =
    if s.isBridge q then { s.port q with silence := s.timing.silence } else s.port q := rewriteAll_get _ s.ports q

/-! ## The prepared state -/

/-- What clock and plan store hand at a boundary: the PHASE notice, then the STAGE notice where it is due (R7, R41). -/
theorem State.transition_stageAtBoundary_hands (reason : Reason) (c : Clock) (s : State) :
    s.SamePorts (s.transition reason c).stageAtBoundary ∧
    s.HandedAll (s.phaseNotice reason c :: (s.transition reason c).stageNotices) (s.transition reason c).stageAtBoundary := by
  obtain ⟨hports, hhands⟩ := (s.transition reason c).stageAtBoundary_hands
  have ht := State.transition_onlyHands reason c s
  refine ⟨fun q => (hports q).trans (ht.ports q), ?_⟩
  exact State.HandedAll.append (ns := [s.phaseNotice reason c]) ht.handed hhands
    (State.routes_congr (fun _ => rfl) (State.SamePorts.subscription ht.ports))

@[simp] theorem State.prepared_stage (reason : Reason) (c : Clock) (s : State) : (s.prepared reason c).stage =
    if (s.stage.state = .sealed ∧ c.state.isLive = true) ∨ (s.stage.state ≠ .empty ∧ c.state = .finished) then .reset
    else s.stage := by
  rw [State.prepared_eq]
  exact State.stageAtBoundary_stage _
theorem State.prepared_element (reason : Reason) (c : Clock) (s : State) (e : Elem) :
    (s.prepared reason c).element e = (s.setClock c).elementAtBoundary e := by
  rw [State.prepared_eq]
  exact State.stageAtBoundary_element _ e
theorem State.prepared_activeProfile (reason : Reason) (c : Clock) (s : State) (e : Elem) :
    (s.prepared reason c).activeProfile e = (s.transition reason c).stageAtBoundary.activeProfile e := by
  have hc : (s.transition reason c).stageAtBoundary.clock = c := by rw [State.stageAtBoundary_eq]; rfl
  rw [State.activeProfile, State.activeProfile, hc, State.prepared_eq]
  rfl

/-- A port in the prepared state: its records handed, its entries of changed elements VOID, a bridge port's silence timer
reloaded at a live phase (R7, R41, R55, R183). -/
theorem State.prepared_port (reason : Reason) (c : Clock) (s : State) (q : Port) : (s.prepared reason c).port q =
    { s.port q with
      silence := if c.state.isLive = true ∧ s.role q = .bridge then s.timing.silence else (s.port q).silence
      snapshot := (s.port q).snapshot.map fun y =>
        if s.activeProfile y.element = (s.prepared reason c).activeProfile y.element then y else ⟨y.element, none⟩
      queue := ((s.phaseNotice reason c :: (s.transition reason c).stageNotices).filter fun n => s.routes n q).foldl
        enqueue (s.port q).queue } := by
  simp only [State.prepared_activeProfile]
  obtain ⟨hports, hhands⟩ := State.transition_stageAtBoundary_hands reason c s
  have hu := hhands.port hports q
  have heq : (s.transition reason c).stageAtBoundary = { s with clock := c, stage := _, elements := _, ports := _ } :=
    State.stageAtBoundary_eq (s.transition reason c)
  unfold State.prepared
  generalize (s.transition reason c).stageAtBoundary = u at hports hu heq ⊢
  have hv := u.voidChanged_port s q
  have hveq := u.voidChanged_eq s
  generalize u.voidChanged s = v at hv hveq ⊢
  rw [hu] at hv
  have htiming : v.timing = s.timing := by rw [hveq, heq]
  have hbridge : v.isBridge q = decide (s.role q = .bridge) := by
    rw [State.isBridge, State.role_congr (s := s) (t := v)]
    rw [hv]
    rfl
  dsimp only
  cases hl : c.state.isLive with
  | false =>
    simp only [Bool.false_eq_true, if_false, false_and]
    exact hv
  | true =>
    rw [if_pos rfl, State.reloadSilence_port, hbridge, htiming, hv]
    by_cases hb : s.role q = .bridge <;> simp [hb, PortRecord.mapSnapshot]

end Sys2Proof.Machine

namespace Sys2Proof.Machine

/-! # Roster, arbiter and feeds at a boundary (R58, R83, R84, R103, R112) -/

theorem State.Plays.clock {s t : State} (h : s.Plays t) : t.clock = s.clock := h.same.clock
theorem State.Plays.bound {s t : State} (h : s.Plays t) (r : Robot) : (t.robot r).bound = (s.robot r).bound :=
  congrArg RobotRecord.bound (a₁ := (t.robot r).own) (a₂ := (s.robot r).own) (h.rosters r)

/-- The arbiter changes no enabled flag, so the roster hands the same records before it and behind it. -/
theorem State.Plays.enableNotices {s t : State} (h : s.Plays t) (before : State) :
    t.enableNotices before = s.enableNotices before := by
  simp only [State.enableNotices, h.bound, h.enabled, h.clock]

/-- What roster and arbiter do at a boundary: the state of the arbiter alone but for queues and the model's counter, and
the notices of either block ahead of the other's. -/
theorem State.rosterAndArbiter_spec (s before : State) :
    let t := s.rosterAndArbiter before
    t = { s.claimsAtBoundary with ports := t.ports, boundaries := s.boundaries + 1 } ∧
    s.claimsAtBoundary.SamePorts t ∧
    ∃ ns : List Notice, s.HandedAll ns s.claimsAtBoundary ∧ (∀ n ∈ ns, n.ofArbiter) ∧
      (s.HandedAll (s.enableNotices before ++ ns) t ∨ s.HandedAll (ns ++ s.enableNotices before) t) := by
  have ha := State.announceEnables_onlyHands s before
  have twins := ha.sameButQueues.claimsAtBoundary
  have hb := State.announceEnables_onlyHands s.claimsAtBoundary before
  rw [twins.plays.plays.enableNotices] at hb
  have hports := twins.after.ports
  have hrest := twins.after.rest
  obtain ⟨ns, hkind, hw, hw'⟩ := twins.handed
  have first := ha.handed.append hw' ha.sameButQueues.routes
  have last := hw.append hb.handed twins.plays.plays.routes
  have hbports := hb.ports
  rw [State.rosterAndArbiter_eq]
  generalize (s.announceEnables before).claimsAtBoundary = x at hports hrest first ⊢
  generalize s.claimsAtBoundary.announceEnables before = y at last hbports ⊢
  generalize s.claimsAtBoundary = w at *
  refine ⟨?_, fun q => ?_, ns, hw, hkind, ?_⟩
  · conv_lhs => rw [hrest]
  · cases Config.arbiterFirst s.boundaries
    · exact hports q
    · exact hbports q
  · cases Config.arbiterFirst s.boundaries
    · exact .inl first
    · exact .inr last

/-! ## Feeds (R103, R112, R121, R122, R127) -/

/-- The pending value that a start in WAVE keeps (R127). -/
theorem PulseUnit.keptTune_wave (u : PulseUnit) : u.keptTune .wave =
    match u.pendingTune with
    | some (k, .wave) => some (k, .wave)
    | _ => none := by
  unfold PulseUnit.keptTune PulseUnit.tunedTo
  cases u.pendingTune with
  | none => rfl
  | some t =>
    obtain ⟨k, m⟩ := t
    cases m <;> rfl
/-- The start of a feed (R103, R104): WAVE with the feed period, held where S1 is active. -/
theorem Element.startFeed_eq (p : Profile) (x : Element) : x.startFeed p =
    { x with
      pulse := ⟨.wave, p.feedPeriod.getD 0, (p.feedPeriod.getD 0 + 1) / 2, .first, !x.senseActive .s1,
        !x.senseActive .s1, x.pulse.keptTune .wave⟩
      test := none
      feed := if x.senseActive .s1 = true then .held else .running
      feedPending := false } := by
  have level : (x.drivePulse (PulseUnit.startWave (p.feedPeriod.getD 0))).senseActive .s1 = x.senseActive .s1 := rfl
  unfold Element.startFeed
  dsimp only
  rw [level]
  cases x.senseActive .s1 <;> rfl
theorem Element.stopFeed_stopped {x : Element} (h : x.feed = .stopped) : x.stopFeed = { x with feedPending := false } := by
  rw [Element.stopFeed, h]
theorem Element.stopFeed_started {x : Element} (h : x.feed ≠ .stopped) : x.stopFeed =
    { x with pulse := .stopped, test := none, feed := .stopped, feedPending := false } := by
  unfold Element.stopFeed
  split
  · exact absurd ‹_› h
  · rfl
  · rfl
/-- A feed that comes to be allowed while a release shot runs waits for its end (R103). -/
theorem Element.openFeed_waits {x : Element} (p : Profile) (h : x.feed = .stopped ∧ x.pulse.mode = .shot) :
    x.openFeed p = { x with feedPending := true } := by
  rw [Element.openFeed, h.1]
  exact if_pos h.2
/-- A feed that comes to be allowed and need not wait starts afresh; one that ran loses a value tuned before (R103,
R116). -/
theorem Element.openFeed_starts {x : Element} (p : Profile) (h : ¬ (x.feed = .stopped ∧ x.pulse.mode = .shot)) :
    x.openFeed p =
    { x with
      pulse := ⟨.wave, p.feedPeriod.getD 0, (p.feedPeriod.getD 0 + 1) / 2, .first, !x.senseActive .s1,
        !x.senseActive .s1, match x.feed, x.pulse.pendingTune with
          | .stopped, some (k, .wave) => some (k, .wave)
          | _, _ => none⟩
      test := none
      feed := if x.senseActive .s1 = true then .held else .running
      feedPending := false } := by
  unfold Element.openFeed
  cases hf : x.feed with
  | stopped =>
    dsimp only
    rw [if_neg fun hm => h ⟨hf, hm⟩, Element.startFeed_eq, PulseUnit.keptTune_wave]
    cases x.pulse.pendingTune with
    | none => rfl
    | some t =>
      obtain ⟨k, m⟩ := t
      cases m <;> rfl
  | running | held =>
    dsimp only
    rw [Element.stopFeed_started (by simp [hf]), Element.startFeed_eq]
    rfl

/-- Whether the conditions of a dispenser's feed hold (R103). -/
theorem State.feedAllowed_iff {s : State} {e : Elem} (hk : (s.element e).header.kind = .dispenser) :
    s.feedAllowed e = true ↔ (s.activeProfile e).use = .auto ∧ (s.element e).claim.state.isBlocked = false := by
  unfold State.feedAllowed State.claim
  cases (s.element e).claim.state <;> simp [hk, ClaimState.isBlocked]
theorem State.feedAtBoundary_element (e : Elem) (s : State) : (s.feedAtBoundary e).element e =
    if (s.element e).header.kind = .dispenser then
      if (s.activeProfile e).use = .auto ∧ (s.element e).claim.state.isBlocked = false then
        (s.element e).openFeed (s.activeProfile e)
      else (s.element e).stopFeed
    else s.element e := by
  unfold State.feedAtBoundary
  by_cases hk : (s.element e).header.kind = .dispenser
  · rw [if_pos hk, if_pos hk]
    simp only [State.feedAllowed_iff hk]
    split <;> exact State.element_modifyElement_self _ _ _
  · rw [if_neg hk, if_neg hk]
theorem State.feedAtBoundary_eq (e : Elem) (s : State) :
    s.feedAtBoundary e = { s with elements := (s.feedAtBoundary e).elements } := by
  unfold State.feedAtBoundary
  split
  · split <;> rfl
  · rfl
/-- The dispensers' feeds at a boundary change the elements alone. -/
theorem State.feedsAtBoundary_eq (s : State) : s.forEach allElems State.feedAtBoundary =
    { s with elements := (s.forEach allElems State.feedAtBoundary).elements } := by
  refine State.forEach_keeps (fun t => t = { s with elements := t.elements }) (fun e _ t ht => ?_) rfl
  rw [State.feedAtBoundary_eq, ht]
/-- Each dispenser's feed is taken as the arbiter left the element. -/
theorem State.feedsAtBoundary_element (s : State) (e : Elem) :
    (s.forEach allElems State.feedAtBoundary).element e = (s.feedAtBoundary e).element e := by
  obtain ⟨u, hu, he, -, ht⟩ := (State.forEach_local State.Arbitrates .refl .trans
    (fun e s => State.feedAtBoundary_arbitrates e s) State.feedAtBoundary_local allElems_nodup s e).1 (mem_allElems e)
  rw [ht, State.feedAtBoundary_element, State.feedAtBoundary_element, he, hu.plays.activeProfile]

end Sys2Proof.Machine

namespace Sys2Proof.Machine

/-! # A transition with its boundary (R5, R31) -/

theorem State.prepared_frame (reason : Reason) (c : Clock) (s : State) : s.prepared reason c =
    { s with clock := c, stage := (s.prepared reason c).stage, elements := (s.prepared reason c).elements,
             ports := (s.prepared reason c).ports } := by
  have h := s.prepared_eq reason c
  generalize s.prepared reason c = v at h ⊢
  have hs := congrArg State.stage h
  have he := congrArg State.elements h
  dsimp only at hs he
  rw [hs, he]
  exact h

/-- The ROBOT notices of a boundary into a state (R58): bindings are those before it, clock and enabled flags its own. -/
theorem State.prepared_enableNotices (reason : Reason) (c : Clock) (s : State) :
    (s.prepared reason c).enableNotices s =
      (allRobots.filter fun r => (s.robot r).bound.isSome && s.enabled r != (s.prepared reason c).enabled r).map fun r =>
        ⟨.robot, some .phase, some r, none, c.state, c.tenths,
          some (if (s.prepared reason c).enabled r = true then 1 else 0)⟩ := by
  have robot : ∀ r, (s.prepared reason c).robot r = s.robot r := fun r => by rw [State.prepared_frame]; rfl
  simp only [State.enableNotices, robot, State.prepared_clock]

/-- What the boundary does to the feed of one element that the arbiter has taken (R103, R112, R121, R122, R127). -/
theorem State.feedAtBoundary_spec (e : Elem) (s : State) :
    let x := s.element e
    let y := (s.feedAtBoundary e).element e
    let n := (s.activeProfile e).feedPeriod.getD 0
    let dispenser : Prop := x.header.kind = .dispenser
    let allowed : Prop := (s.activeProfile e).use = .auto ∧ x.claim.state.isBlocked = false
    let waits : Prop := x.feed = .stopped ∧ x.pulse.mode = .shot
    (¬ dispenser → y = x) ∧
    (dispenser → ¬ allowed → x.feed = .stopped → y = { x with feedPending := false }) ∧
    (dispenser → ¬ allowed → x.feed ≠ .stopped →
      y = { x with pulse := .stopped, test := none, feed := .stopped, feedPending := false }) ∧
    (dispenser → allowed → waits → y = { x with feedPending := true }) ∧
    (dispenser → allowed → ¬ waits → y = { x with
      pulse := ⟨.wave, n, (n + 1) / 2, .first, !x.senseActive .s1, !x.senseActive .s1,
        match x.feed, x.pulse.pendingTune with
        | .stopped, some (k, .wave) => some (k, .wave)
        | _, _ => none⟩
      test := none
      feed := if x.senseActive .s1 = true then .held else .running
      feedPending := false }) := by
  intro x y n dispenser allowed waits
  have hy : y = _ := State.feedAtBoundary_element e s
  refine ⟨fun hd => ?_, fun hd ha hf => ?_, fun hd ha hf => ?_, fun hd ha hw => ?_, fun hd ha hw => ?_⟩
  · rw [hy, if_neg hd]
  · rw [hy, if_pos hd, if_neg ha]
    exact Element.stopFeed_stopped hf
  · rw [hy, if_pos hd, if_neg ha]
    exact Element.stopFeed_started hf
  · rw [hy, if_pos hd, if_pos ha]
    exact Element.openFeed_waits _ hw
  · rw [hy, if_pos hd, if_pos ha]
    exact Element.openFeed_starts _ hw

/-- Settles O13: the prepared state is the witness, then roster and arbiter, then the feeds. -/
theorem boundaryAppliesStageAndReloads : Obligations.BoundaryAppliesStageAndReloads := by
  intro reason c s _
  have hframe := State.prepared_frame reason c s
  have hstage := State.prepared_stage reason c s
  have helement := State.prepared_element reason c s
  have hport := State.prepared_port reason c s
  have hnotes := State.prepared_enableNotices reason c s
  obtain ⟨hrest, hports, ns, hw, hkind, hhanded⟩ := (s.prepared reason c).rosterAndArbiter_spec s
  have hplays := State.claimsAtBoundary_arbitrates (s.prepared reason c)
  have henter := State.enter_eq reason c s
  have hfeeds := State.feedsAtBoundary_eq ((s.prepared reason c).rosterAndArbiter s)
  have hfeed := State.feedsAtBoundary_element ((s.prepared reason c).rosterAndArbiter s)
  rw [← henter] at hfeeds hfeed
  have hb : (s.prepared reason c).boundaries = s.boundaries := by rw [hframe]
  rw [hb] at hrest
  rw [hnotes] at hhanded
  have hspec := fun e => State.feedAtBoundary_spec e ((s.prepared reason c).rosterAndArbiter s)
  refine ⟨s.prepared reason c, hframe, hstage, helement, hport, ?_⟩
  generalize s.prepared reason c = v at hrest hports hw hhanded hplays hfeeds hfeed hspec ⊢
  generalize v.rosterAndArbiter s = a at hrest hports hhanded hfeeds hfeed hspec
  generalize s.enter reason c = t at hfeeds hfeed ⊢
  have hqueues : ∀ q, t.port q = a.port q := fun q => by rw [hfeeds]; rfl
  have hactive : ∀ e, a.activeProfile e = v.activeProfile e := fun e => by
    rw [hrest, ← hplays.plays.activeProfile]
    rfl
  have helements : ∀ e, a.element e = v.claimsAtBoundary.element e := fun e => by rw [hrest]; rfl
  refine ⟨?_, fun q => ?_, ⟨ns, hw, hkind, ?_⟩, fun e => ?_⟩
  · conv_lhs => rw [hfeeds, hrest]
    rw [show t.ports = a.ports by rw [hfeeds]]
  · rw [hqueues, hports]
  · exact hhanded.imp (fun h q => (congrArg PortRecord.queue (hqueues q)).trans (h q))
      fun h q => (congrArg PortRecord.queue (hqueues q)).trans (h q)
  · have h := hspec e
    rw [← hfeed, helements, hactive] at h
    exact h

end Sys2Proof.Machine

namespace Sys2Proof.Machine

/-! # ARM and DISARM (R10 to R12) -/

/-! ## The plan check (R26, R28, R29) -/

/-- The pairs and fields of Table 2-3, with the credit forms of R26. -/
def Profile.Fits (k : Kind) (pr : Profile) : Prop :=
  pr.use = .closed ∨
  pr.use = .claim ∧ pr.mask ≠ none ∧ pr.hold ≠ none ∧
    (k = .gate ∨
    k = .dispenser ∧ pr.cooldown ≠ none ∧ pr.quota ≠ none ∨
    k = .goal ∧ pr.cooldown ≠ none ∧ pr.weight ≠ none ∧ pr.credit = some .holder ∨
    k = .beacon ∧ pr.cooldown ≠ none ∧ pr.weight ≠ none ∧ pr.interval ≠ none) ∨
  pr.use = .auto ∧
    (k = .dispenser ∧ pr.feedPeriod ≠ none ∨
    k = .goal ∧ pr.weight ≠ none ∧ ∃ a, pr.credit = some (.fixed a))

theorem profileFits_iff (k : Kind) (pr : Profile) : profileFits k pr = true ↔ pr.Fits k := by
  unfold profileFits Profile.Fits
  cases hu : pr.use with
  | closed => simp [pairFields]
  | claim =>
    cases k with
    | goal =>
      rcases pr.credit with _ | (_ | _) <;> simp [pairFields, creditFits, Option.isSome_iff_ne_none, and_assoc]
    | none | gate | dispenser | beacon => simp [pairFields, Option.isSome_iff_ne_none, and_assoc]
  | auto =>
    cases k with
    | goal => rcases pr.credit with _ | (_ | _) <;> simp [pairFields, creditFits, Option.isSome_iff_ne_none]
    | none | gate | dispenser | beacon => simp [pairFields, Option.isSome_iff_ne_none]
theorem Element.planFits_iff (x : Element) : x.planFits = true ↔ ∀ ph, (x.plan ph).Fits x.header.kind := by
  rw [Element.planFits, Bool.and_eq_true, Bool.and_eq_true, profileFits_iff, profileFits_iff, profileFits_iff]
  refine ⟨fun ⟨⟨ha, hd⟩, he⟩ ph => ?_, fun h => ⟨⟨h .auto, h .drive⟩, h .endgame⟩⟩
  cases ph
  · exact ha
  · exact hd
  · exact he

/-- The plan check names the first element that fails. -/
theorem State.planFailure_element {s : State} {e : Elem} (he : (s.element e).planFits = false)
    (before : ∀ e', e'.val < e.val → (s.element e').planFits = true) : s.planFailure = some (some e) := by
  have first : (allElems.find? fun e => !(s.element e).planFits) = some e := by
    rw [List.find?_eq_some_iff_getElem]
    refine ⟨by simp [he], e.val, by simp [allElems], by simp [allElems], fun j hj => ?_⟩
    simp only [allElems, List.getElem_finRange, Bool.not_not]
    exact before _ (by simpa using hj)
  rw [State.planFailure, first]
theorem State.planFailure_none {s : State} (h : ∀ e, (s.element e).planFits = true) : s.planFailure =
    if 900 < s.timing.autoS + s.timing.breakS + s.timing.driveS then some none else none := by
  have noElement : (allElems.find? fun e => !(s.element e).planFits) = none := by
    simp [List.find?_eq_none, h]
  rw [State.planFailure, noElement]
  rfl

/-! ## The alliances in play (R11) -/

theorem allianceBit (a b : Alliance) : (1#4 <<< b.val).getLsbD a.val = decide (a = b) := by
  revert a b
  decide
theorem foldl_allianceBit (test : Alliance → Bool) (a : Alliance) (xs : List Alliance) (set : AllianceSet) :
    (xs.foldl (fun set b => if test b then set ||| (1#4 <<< b.val) else set) set).getLsbD a.val =
      (set.getLsbD a.val || decide (a ∈ xs) && test a) := by
  induction xs generalizing set with
  | nil => simp
  | cons b xs ih =>
    rw [List.foldl_cons, ih]
    by_cases hab : a = b
    · subst hab
      cases test a <;> simp
    · have bit : (set ||| 1#4 <<< b.val).getLsbD a.val = set.getLsbD a.val := by
        rw [BitVec.getLsbD_or, allianceBit, decide_eq_false hab, Bool.or_false]
      have tail : a ∈ b :: xs ↔ a ∈ xs := by simp [hab]
      cases ht : test b
      · simp only [Bool.false_eq_true, if_false, tail]
      · simp only [if_true, bit, tail]
theorem State.boundAlliances_iff (s : State) (a : Alliance) : s.boundAlliances.getLsbD a.val = true ↔
    ∃ r, (s.robot r).bound ≠ none ∧ (s.robot r).alliance = some a := by
  rw [State.boundAlliances, foldl_allianceBit]
  simp [mem_allAlliances, mem_allRobots, State.isBound, Option.isSome_iff_ne_none]

/-- The bodies of ARM and DISARM by what they find. -/
theorem State.armRequest_refused {s : State} (h : s.clock.state ≠ .setup) : s.armRequest = (s, refuse .phase) := if_pos h
theorem State.armRequest_invalid {s : State} (h : s.clock.state = .setup) {failing : Option Elem}
    (hp : s.planFailure = some failing) : s.armRequest = (s, ⟨.planInvalid, [orAbsent indexByte failing]⟩) := by
  rw [State.armRequest, if_neg (not_not.mpr h), hp]
theorem State.armRequest_noRobots {s : State} (h : s.clock.state = .setup) (hp : s.planFailure = none)
    (hb : ∀ r, (s.robot r).bound = none) : s.armRequest = (s, refuse .noRobots) := by
  rw [State.armRequest, if_neg (not_not.mpr h), hp]
  exact if_pos (by simp [State.isBound, hb])
theorem State.armRequest_arms {s : State} (h : s.clock.state = .setup) (hp : s.planFailure = none)
    (hb : ∃ r, (s.robot r).bound ≠ none) : s.armRequest =
      ((s.transition .arm { s.clock with state := .armed, inPlay := s.boundAlliances }).armEvent, accept [0]) := by
  rw [State.armRequest, if_neg (not_not.mpr h), hp]
  exact if_neg (by simpa [State.isBound, mem_allRobots, Option.isSome_iff_ne_none] using hb)
theorem State.disarmRequest_refused {s : State} (h : s.clock.state ≠ .armed) : s.disarmRequest = (s, refuse .phase) :=
  if_pos h
theorem State.disarmRequest_disarms {s : State} (h : s.clock.state = .armed) : s.disarmRequest =
    ((s.transition .disarm { s.clock with state := .setup, inPlay := 0 }).disarmEvent, accept []) :=
  if_neg (not_not.mpr h)

end Sys2Proof.Machine

namespace Sys2Proof.Machine

/-! # Homing (R90, R95, R97) -/

/-- Each element after one write on every element. -/
theorem State.forEach_modifyElement_element (f : Element → Element) (s : State) (e : Elem) :
    (s.forEach allElems fun e s => s.modifyElement e f).element e = f (s.element e) := by
  obtain ⟨u, -, he, -, ht⟩ := (State.forEach_local (act := fun e s => s.modifyElement e f) (fun _ _ => True)
    (fun _ => trivial) (fun _ _ => trivial) (fun _ _ => trivial) (fun e s => State.modifyElement_local e f s)
    allElems_nodup s e).1 (mem_allElems e)
  rw [ht, State.element_modifyElement_self, he]

theorem Element.endTest_eq (x : Element) :
    x.endTest = { x with test := none, pulse := if x.test = none then x.pulse else .stopped } := by
  cases h : x.test with
  | none =>
    rw [Element.endTest, if_neg (by simp [h]), if_pos rfl, ← h]
  | some l => simp [Element.endTest, h, Element.drivePulse, PulseUnit.stop]
/-- A trigger of SHOT, with a value tuned for it loaded instead of the period (R118, R126). -/
theorem PulseUnit.trigger_eq (n : Nat) (u : PulseUnit) : u.trigger n =
    ⟨.shot, n, (match u.pendingTune with
      | some (v, .shot) => v
      | _ => n), u.half, true, true, none⟩ := by
  unfold PulseUnit.trigger PulseUnit.tunedTo
  cases u.pendingTune with
  | none => rfl
  | some t =>
    obtain ⟨v, m⟩ := t
    cases m <;> rfl
/-- A gate that starts to drive runs the SHOT of its motion limit (R90). -/
theorem Element.drive_eq (d : Direction) (q : Purpose) (x : Element) : x.drive d q =
    { x with
      pulse := ⟨.shot, x.header.motionLimit.getD 0, (match x.pulse.pendingTune with
        | some (v, .shot) => v
        | _ => x.header.motionLimit.getD 0), x.pulse.half, true, true, none⟩
      test := none
      motion := movingOf d
      purpose := q } :=
  congrArg (fun u => { x with pulse := u, test := none, motion := movingOf d, purpose := q }) (PulseUnit.trigger_eq _ _)
theorem Element.claimEnded_gate {x : Element} (h : x.header.kind = .gate) : x.claimEnded = x := by
  rw [Element.claimEnded, h]

/-- A FIELD or JAM cause on an element that has no claim and is not BLOCKED (R79, R80). -/
theorem State.takeBlock_unclaimed {s : State} {e : Elem} (hn : (s.claim e).state.isBlocked = false)
    (hh : (s.claim e).state.holder = none) (c : BlockCause) : s.takeBlock e c = s.enterBlocked e c := by
  unfold State.takeBlock
  cases h : (s.claim e).state with
  | held r => simp [h, ClaimState.holder] at hh
  | blocked => simp [h, ClaimState.isBlocked] at hn
  | inert | free | returning => rfl
/-- A gate after a FIELD or JAM cause that does not find it BLOCKED (R79, R80). -/
theorem State.takeBlock_gate {s : State} {e : Elem} (hk : (s.element e).header.kind = .gate)
    (hn : (s.claim e).state.isBlocked = false) (c : BlockCause) : ∃ last,
    (s.takeBlock e c).element e = { s.element e with claim := ⟨.blocked c, last, []⟩, timer := .stopped } ∧
    ((s.claim e).state.holder = none → last = (s.claim e).lastAlliance) := by
  by_cases hh : (s.claim e).state.holder = none
  · exact ⟨_, by rw [State.takeBlock_unclaimed hn hh, State.enterBlocked_element], fun _ => rfl⟩
  · obtain ⟨r, hr⟩ : ∃ r, (s.claim e).state = .held r := by
      cases h : (s.claim e).state with
      | held r => exact ⟨r, rfl⟩
      | inert | free | returning | blocked => simp [h, ClaimState.holder] at hh
    refine ⟨(s.robot r).alliance, ?_, fun k => absurd k hh⟩
    have removed : (s.removeHolder e r c.cause).element e =
        { s.element e with claim := { s.claim e with state := .returning, lastAlliance := (s.robot r).alliance } } :=
      (State.removeHolder_element e r c.cause s).trans (Element.claimEnded_gate hk)
    rw [State.takeBlock, hr]
    dsimp only
    rw [State.enterBlocked_element, State.claim, removed]

/-- Homing does nothing to an element that does not begin it. -/
theorem State.homeGate_idle {s : State} {e : Elem} (h : ¬ (s.element e).BeginsHoming) : s.homeGate e = s := by
  rw [State.homeGate_eq, if_neg h]
/-- Both limits of a gate are active (R95). -/
def Element.BothLimits (x : Element) : Prop := x.senseActive .s0 = true ∧ x.senseActive .s1 = true
theorem State.homeGate_jams {s : State} {e : Elem} (h : (s.element e).BeginsHoming) (hb : (s.element e).BothLimits) :
    s.homeGate e = s.jam e := by
  rw [State.homeGate_eq, if_pos h, State.startMotion]
  exact if_pos (by simp [Element.bothLimits, hb.1, hb.2])
/-- A gate that homes with its rest limit inactive is driven (R90). -/
theorem State.homeGate_drives {s : State} {e : Elem} (h : (s.element e).BeginsHoming)
    (h0 : (s.element e).senseActive .s0 = false) : s.homeGate e = s.modifyElement e (Element.drive .back .home) := by
  rw [State.homeGate_eq, if_pos h, State.startMotion, if_neg (by simp [Element.bothLimits, h0]), if_neg (by simp [limitOf, h0])]
/-- A gate that homes with its rest limit active arrives at once (R90, R93). -/
theorem State.homeGate_arrives {s : State} {e : Elem} (h : (s.element e).BeginsHoming)
    (h0 : (s.element e).senseActive .s0 = true) (h1 : (s.element e).senseActive .s1 = false) :
    s.homeGate e = s.modifyElement e (Element.arrive .back) := by
  rw [State.homeGate_eq, if_pos h, State.startMotion, if_neg (by simp [Element.bothLimits, h1]), if_pos (by simp [limitOf, h0])]
/-- A gate that jams as it begins to home (R79, R80, R95). -/
theorem State.homeGate_jammed_element {s : State} {e : Elem} (h : (s.element e).BeginsHoming)
    (hb : (s.element e).BothLimits) : ∃ last,
    (s.homeGate e).element e = { s.element e with
      claim := ⟨.blocked .jam, last, []⟩, timer := .stopped, pulse := .stopped, test := none, motion := .stopped
      purpose := .none } ∧
    ((s.element e).claim.state.holder = none → last = (s.element e).claim.lastAlliance) := by
  obtain ⟨hk, -, -, hn⟩ := id h
  have halted : (s.modifyElement e Element.halted).element e = (s.element e).halted := State.element_modifyElement_self _ _ _
  obtain ⟨last, he, hl⟩ := State.takeBlock_gate (s := s.modifyElement e Element.halted) (e := e)
    (by rw [halted]; exact hk) (by rw [State.claim, halted]; exact hn) .jam
  rw [State.claim, halted] at hl
  rw [halted] at he
  exact ⟨last, by rw [State.homeGate_jams h hb]; exact he, hl⟩

/-! ## The notices of the arm event -/

/-- The ELEMENT notice of a jam (Table 10-1). -/
def State.jamNotice (s : State) (e : Elem) : Notice := s.notice .element (some .blocked) none (some e) (some 2)

/-- An element without holder and waiters hands its ELEMENT notice alone when it enters BLOCKED (R80). -/
theorem State.enterBlocked_handed {s : State} {e : Elem} (hw : (s.claim e).waiters = []) (c : BlockCause) :
    s.Handed (s.notice .element (some .blocked) none (some e) (some (c.code : Int))) (s.enterBlocked e c) := by
  have drops : s.dropAll e c.cause.reason = s.setClaim e { s.claim e with waiters := [] } := by
    rw [State.dropAll, State.dropWaiters, hw]
    rfl
  have plays := ((State.setClaim_arbitrates e { s.claim e with waiters := [] } s).trans
    (State.setTimer_arbitrates e .stopped _)).trans (State.setClaimState_arbitrates e (.blocked c) _)
  rw [State.enterBlocked, drops]
  generalize hu : State.setClaimState e _ _ = u at plays ⊢
  have ports : ∀ q, u.port q = s.port q := fun q => by rw [← hu]; rfl
  have note : u.notice .element (some .blocked) none (some e) (some (c.code : Int)) =
      s.notice .element (some .blocked) none (some e) (some (c.code : Int)) := by
    rw [State.notice, plays.plays.clock]
    rfl
  intro q
  have h := u.raise_handed .element (some .blocked) none (some e) (some (c.code : Int)) q
  rw [note, plays.plays.routes, ports] at h
  exact h

/-- An element without holder and waiters hands one ELEMENT notice as it jams at the arm event, and none else. -/
theorem State.homeGate_handed {s : State} {e : Elem} (hh : (s.claim e).state.holder = none)
    (hw : (s.claim e).waiters = []) :
    ((s.element e).BeginsHoming ∧ (s.element e).BothLimits → s.HandedAll [s.jamNotice e] (s.homeGate e)) ∧
    (¬ ((s.element e).BeginsHoming ∧ (s.element e).BothLimits) → s.HandedAll [] (s.homeGate e)) := by
  refine ⟨fun ⟨hb, hl⟩ => ?_, fun hn => ?_⟩
  · have halted : (s.modifyElement e Element.halted).claim e = s.claim e := by
      rw [State.claim, State.element_modifyElement_self]
      rfl
    rw [State.homeGate_jams hb hl, State.jam, State.takeBlock_unclaimed (by rw [halted]; exact hb.2.2.2) (by rw [halted, hh])]
    exact .single (State.enterBlocked_handed (by rw [halted, hw]) .jam)
  · by_cases hb : (s.element e).BeginsHoming
    · cases h0 : (s.element e).senseActive .s0 with
      | false =>
        rw [State.homeGate_drives hb h0]
        exact .nil fun _ => rfl
      | true =>
        have h1 : (s.element e).senseActive .s1 = false := by
          rw [Bool.eq_false_iff]
          exact fun h1 => hn ⟨hb, h0, h1⟩
        rw [State.homeGate_arrives hb h0 h1]
        exact .nil fun _ => rfl
    · rw [State.homeGate_idle hb]
      exact .nil fun _ => rfl

/-- Where no element has a holder or waiters, homing hands one ELEMENT notice for each gate that jams, in element order. -/
theorem State.homing_handed {xs : List Elem} (distinct : xs.Nodup) (jams : Elem → Bool) {s : State}
    (hjams : ∀ e ∈ xs, jams e = true ↔ (s.element e).BeginsHoming ∧ (s.element e).BothLimits)
    (hfree : ∀ e ∈ xs, (s.claim e).state.holder = none ∧ (s.claim e).waiters = []) :
    s.HandedAll ((xs.filter jams).map s.jamNotice) (s.forEach xs State.homeGate) := by
  induction xs generalizing s with
  | nil => exact .nil fun _ => rfl
  | cons i xs ih =>
    obtain ⟨hi, hd⟩ := List.nodup_cons.mp distinct
    have plays := (State.homeGate_arbitrates i s).plays
    have other : ∀ e ∈ xs, (s.homeGate i).element e = s.element e := fun e he =>
      State.homeGate_local i s e fun h => hi (h ▸ he)
    have rest := ih hd (s := s.homeGate i)
      (fun e he => by rw [other e he]; exact hjams e (List.mem_cons_of_mem _ he))
      (fun e he => by rw [State.claim, other e he]; exact hfree e (List.mem_cons_of_mem _ he))
    have notes : (s.homeGate i).jamNotice = s.jamNotice := by
      funext e
      rw [State.jamNotice, State.notice, plays.clock]
      rfl
    rw [notes] at rest
    obtain ⟨hh, hw⟩ := hfree i List.mem_cons_self
    have hji := hjams i List.mem_cons_self
    obtain ⟨hjam, hidle⟩ := State.homeGate_handed hh hw
    rw [State.forEach_cons]
    cases hj : jams i with
    | true =>
      rw [List.filter_cons_of_pos hj]
      exact (hjam (hji.mp hj)).append rest plays.routes
    | false =>
      rw [List.filter_cons_of_neg (by simp [hj])]
      exact (hidle fun k => by simp [hji.mpr k] at hj).append rest plays.routes

/-- A list of elements in element order is the filter of E0 to E23 by its members. -/
theorem ordered_eq_filter {jammed : List Elem} (ordered : jammed.Pairwise fun e e' => e.val < e'.val)
    (jams : Elem → Bool) (h : ∀ e, e ∈ jammed ↔ jams e = true) : jammed = allElems.filter jams := by
  have increasing : (allElems.filter jams).Pairwise (· < ·) := (List.sortedLT_finRange 24).pairwise.filter _
  refine List.Pairwise.eq_of_mem_iff (r := (· < ·)) ordered increasing fun e => ?_
  simp [h, mem_allElems]

end Sys2Proof.Machine

namespace Sys2Proof.Machine

/-! # ARM and DISARM as a whole -/

/-- The states between the steps of the arm event: line tests ended, no gate homed yet. -/
def State.testsEnded (s : State) : State := s.forEach allElems fun e s => s.modifyElement e Element.endTest
theorem State.testsEnded_eq (s : State) : s.testsEnded = { s with elements := s.testsEnded.elements } :=
  State.forEach_modifyElement_eq allElems id (fun _ => Element.endTest) s
theorem State.testsEnded_arbitrates (s : State) : s.Arbitrates s.testsEnded :=
  State.forEach_arbitrates (fun _ s => State.modifyElement_arbitrates s (Element.endTest_samePlan _)) s
theorem State.testsEnded_port (s : State) (q : Port) : s.testsEnded.port q = s.port q := by
  have h := congrArg State.ports s.testsEnded_eq
  dsimp only at h
  rw [State.port, h]
  rfl
theorem State.armEvent_eq (s : State) : s.armEvent = s.testsEnded.forEach allElems State.homeGate := rfl
theorem State.testsEnded_element (s : State) (e : Elem) : s.testsEnded.element e = { s.element e with
    test := none, pulse := if (s.element e).test = none then (s.element e).pulse else .stopped } := by
  rw [State.testsEnded, State.forEach_modifyElement_element, Element.endTest_eq]

/-- An element after the arm event is as homing leaves it, its test ended. -/
theorem State.armEvent_element (s : State) (e : Elem) :
    ∃ u : State, u.element e = s.testsEnded.element e ∧ s.armEvent.element e = (u.homeGate e).element e := by
  obtain ⟨u, -, he, -, ht⟩ := (State.forEach_local State.Arbitrates .refl .trans
    (fun e s => State.homeGate_arbitrates e s) State.homeGate_local allElems_nodup s.testsEnded e).1 (mem_allElems e)
  exact ⟨u, he, ht⟩

/-- What the arm event does to one element (R90, R93, R95, R97, R141). -/
theorem State.armEvent_spec (s : State) (e : Elem) :
    let x := s.element e
    let y : Element := { x with test := none, pulse := if x.test = none then x.pulse else .stopped }
    let z := s.armEvent.element e
    (¬ x.BeginsHoming → z = y) ∧
    (x.BeginsHoming → x.senseActive .s0 = false → z = y.drive .back .home) ∧
    (x.BeginsHoming → x.senseActive .s0 = true → x.senseActive .s1 = false → z = y.arrive .back) ∧
    (x.BeginsHoming → x.BothLimits → ∃ last, z = { y with
        claim := ⟨.blocked .jam, last, []⟩, timer := .stopped, pulse := .stopped, motion := .stopped, purpose := .none } ∧
      (x.claim.state.holder = none → last = x.claim.lastAlliance)) := by
  obtain ⟨u, hu, hz⟩ := s.armEvent_element e
  rw [State.testsEnded_element] at hu
  intro x y z
  have hy : u.element e = y := hu
  have hz : z = (u.homeGate e).element e := hz
  refine ⟨fun hb => ?_, fun hb h0 => ?_, fun hb h0 h1 => ?_, fun hb hl => ?_⟩
  · rw [hz, State.homeGate_idle (by rw [hy]; exact hb), hy]
  · rw [hz, State.homeGate_drives (by rw [hy]; exact hb) (by rw [hy]; exact h0), State.element_modifyElement_self, hy]
  · rw [hz, State.homeGate_arrives (by rw [hy]; exact hb) (by rw [hy]; exact h0) (by rw [hy]; exact h1),
      State.element_modifyElement_self, hy]
  · obtain ⟨last, he, hlast⟩ := State.homeGate_jammed_element (s := u) (e := e) (by rw [hy]; exact hb) (by rw [hy]; exact hl)
    rw [hy] at he hlast
    exact ⟨last, hz.trans he, hlast⟩

/-- What the arm event hands: records of the arbiter alone; without holders and waiters one ELEMENT notice for each gate that
jams, in element order. -/
theorem State.armEvent_handed (s : State) : (∃ ns, s.HandedAll ns s.armEvent) ∧
    ((∀ e, (s.claim e).state.holder = none ∧ (s.claim e).waiters = []) → ∀ jammed : List Elem,
      jammed.Pairwise (fun e e' => e.val < e'.val) →
      (∀ e, e ∈ jammed ↔ (s.element e).BeginsHoming ∧ (s.element e).BothLimits) →
      s.HandedAll (jammed.map s.jamNotice) s.armEvent) := by
  have plays := s.testsEnded_arbitrates.plays
  have lift : ∀ {ns t}, s.testsEnded.HandedAll ns t → s.HandedAll ns t := fun {ns t} h q => by
    rw [h q, s.testsEnded_port]
    simp only [plays.routes]
  have helement := s.testsEnded_element
  have hnotice : s.testsEnded.jamNotice = s.jamNotice := by
    funext e
    rw [State.jamNotice, State.notice, plays.clock]
    rfl
  rw [State.armEvent_eq]
  generalize s.testsEnded = a at *
  refine ⟨?_, fun hfree jammed ordered hmem => ?_⟩
  · obtain ⟨ns, -, h, -⟩ := (State.SameButQueues.forEach (fun e _ _ h => h.homeGate e) allElems (.refl a)).handed
    exact ⟨ns, lift h⟩
  · classical
    have h := State.homing_handed (s := a) allElems_nodup (fun e => decide (e ∈ jammed))
      (fun e _ => by rw [decide_eq_true_iff, hmem, helement]; rfl)
      (fun e _ => by rw [State.claim, helement]; exact hfree e)
    rw [← ordered_eq_filter ordered _ (fun e => by simp), hnotice] at h
    exact lift h

end Sys2Proof.Machine

namespace Sys2Proof.Machine

/-! # The settled obligation on ARM and DISARM -/

/-- A state after ARM: its frame and clock (R11, R28, R85). -/
theorem State.arms_frame (c : Clock) (s : State) :
    let t := (s.transition .arm c).armEvent
    s.SamePorts t ∧ t.clock = c ∧ t.timing = s.timing ∧ t.stage = s.stage ∧ t.stops = s.stops ∧ s.SameScores t ∧
    s.SameRosters t ∧ t.rst = s.rst ∧ t.pending = s.pending ∧ t.clocks = s.clocks := by
  have ht := State.transition_onlyHands .arm c s
  obtain ⟨⟨hsame, hrosters, hports, -⟩, hscores⟩ := State.armEvent_arbitrates (s.transition .arm c)
  exact ⟨fun q => (hports q).trans (ht.ports q), hsame.clock, hsame.timing, hsame.stage, hsame.stops,
    ⟨hscores.1, hscores.2⟩, hrosters, hsame.rst, hsame.pending, hsame.clocks⟩

/-- What ARM hands: the PHASE notice first, then records of the arbiter; without holders and waiters one ELEMENT notice for each
gate that jams, in element order (R7, R97). -/
theorem State.arms_handed (c : Clock) (s : State) :
    let t := (s.transition .arm c).armEvent
    (∃ ns, s.HandedAll (s.phaseNotice .arm c :: ns) t) ∧
    ((∀ e, (s.claim e).state.holder = none ∧ (s.claim e).waiters = []) → ∀ jammed : List Elem,
      jammed.Pairwise (fun e e' => e.val < e'.val) →
      (∀ e, e ∈ jammed ↔ (s.element e).BeginsHoming ∧ (s.element e).BothLimits) →
      s.HandedAll (s.phaseNotice .arm c :: jammed.map fun e =>
        ⟨.element, some .blocked, none, some e, c.state, c.tenths, some 2⟩) t) := by
  have hphase : s.HandedAll [s.phaseNotice .arm c] (s.transition .arm c) := .single (State.transition_handed .arm c s)
  have hroutes : ∀ n q, (s.transition .arm c).routes n q = s.routes n q := State.routes_congr (fun _ => rfl)
    (State.SamePorts.subscription (State.transition_onlyHands .arm c s).ports)
  obtain ⟨⟨ns, hns⟩, hexact⟩ := (s.transition .arm c).armEvent_handed
  exact ⟨⟨ns, hphase.append hns hroutes⟩, fun hfree jammed ordered hmem =>
    hphase.append (hexact hfree jammed ordered hmem) hroutes⟩

theorem Element.stopHoming_eq (x : Element) : x.stopHoming = if x.header.kind = .gate ∧ x.purpose = .home then
    { x with pulse := .stopped, test := none, motion := .stopped, purpose := .none } else x := by
  simp only [Element.stopHoming, Element.homing, Bool.and_eq_true, decide_eq_true_eq]
  rfl
theorem State.disarmEvent_eq (s : State) : s.disarmEvent = { s.voidStage with elements := s.disarmEvent.elements } :=
  State.forEach_modifyElement_eq allElems id (fun _ => Element.stopHoming) s.voidStage
theorem State.disarmEvent_element (s : State) (e : Elem) : s.disarmEvent.element e =
    if (s.element e).header.kind = .gate ∧ (s.element e).purpose = .home then
      { s.element e with pulse := .stopped, test := none, motion := .stopped, purpose := .none } else s.element e := by
  have voided : s.voidStage.element e = s.element e := by rw [State.voidStage_eq]; rfl
  rw [State.disarmEvent, State.forEach_modifyElement_element, voided, Element.stopHoming_eq]

/-- A state after DISARM: its frame, clock, stage and notices (R12, R40). -/
theorem State.disarms_frame (c : Clock) (s : State) :
    let t := (s.transition .disarm c).disarmEvent
    s.SamePorts t ∧ t.clock = c ∧ t.stage = (if s.stage.state = .empty then s.stage else .reset) ∧
    s.HandedAll (s.phaseNotice .disarm c :: if s.stage.state = .empty then [] else
      [⟨.stage, some .void, none, none, c.state, c.tenths, some ((s.stage.count : Nat) : Int)⟩]) t ∧
    t.timing = s.timing ∧ t.stops = s.stops ∧ s.SameScores t ∧ s.SameRobots t ∧ t.rst = s.rst ∧
    t.pending = s.pending ∧ t.clocks = s.clocks := by
  have ht := State.transition_onlyHands .disarm c s
  have hphase : s.HandedAll [s.phaseNotice .disarm c] (s.transition .disarm c) :=
    .single (State.transition_handed .disarm c s)
  have hroutes : ∀ n q, (s.transition .disarm c).routes n q = s.routes n q := State.routes_congr (fun _ => rfl)
    (State.SamePorts.subscription ht.ports)
  obtain ⟨hports, hvoided⟩ := (s.transition .disarm c).voidStage_hands
  have hstage := (s.transition .disarm c).voidStage_stage
  have hv := (s.transition .disarm c).voidStage_eq
  have heq := (s.transition .disarm c).disarmEvent_eq
  have handed := hphase.append hvoided hroutes
  generalize (s.transition .disarm c).disarmEvent = t at heq ⊢
  generalize (s.transition .disarm c).voidStage = v at hports hstage hv heq handed
  have port : ∀ q, t.port q = v.port q := fun q => by rw [heq]; rfl
  refine ⟨fun q => ?_, ?_, ?_, fun q => ?_, ?_⟩
  · rw [port, hports, ht.ports]
    rfl
  · rw [heq, hv]
    rfl
  · rw [heq]
    exact hstage
  · rw [port]
    exact handed q
  · rw [heq, hv]
    exact ⟨rfl, rfl, ⟨rfl, rfl⟩, rfl, rfl, rfl, rfl⟩

/-- Settles O45. -/
theorem armAndDisarm : Obligations.ArmAndDisarm := by
  intro s hh
  generalize hu : s.examined 0 = v
  intro u c idle shot phase fits sound lengths setup passes run
  have hsound : ∀ e, (u.element e).planFits = true ↔ sound e := fun e => Element.planFits_iff _
  have hall : (∀ e, sound e) → ∀ e, (u.element e).planFits = true := fun h e => (hsound e).mpr (h e)
  refine ⟨fun hm => ?_, fun e hm he hbefore => ?_, fun hm hs hl => ?_, fun ⟨hm, hs, hl⟩ hb => ?_,
    fun ⟨hm, hs, hl⟩ hb => ?_, fun hm => ?_, fun hm => ?_⟩
  · exact exec_referee (c := .arm 0) rfl rfl hh hu (State.armRequest_refused hm)
  · have failing : u.planFailure = some (some e) := State.planFailure_element
      (Bool.eq_false_iff.mpr fun k => he ((hsound e).mp k)) fun e' h => (hsound e').mpr (hbefore e' h)
    exact exec_referee (c := .arm 0) rfl rfl hh hu (State.armRequest_invalid hm failing)
  · have failing : u.planFailure = some none := (State.planFailure_none (hall hs)).trans (if_pos hl)
    exact exec_referee (c := .arm 0) rfl rfl hh hu (State.armRequest_invalid hm failing)
  · have sound : u.planFailure = none := (State.planFailure_none (hall hs)).trans (if_neg (Nat.not_lt.mpr hl))
    exact exec_referee (c := .arm 0) rfl rfl hh hu (State.armRequest_noRobots hm sound hb)
  · intro begins both
    have sound : u.planFailure = none := (State.planFailure_none (hall hs)).trans (if_neg (Nat.not_lt.mpr hl))
    refine ⟨_, exec_referee (c := .arm 0) rfl rfl hh hu (State.armRequest_arms hm sound hb), ?_⟩
    have hplay := State.boundAlliances_iff u
    generalize u.boundAlliances = inPlay at hplay
    obtain ⟨hports, hclock, htiming, hstage, hstops, hscores, hrosters, hrst, hpending, hclocks⟩ :=
      State.arms_frame { c with state := .armed, inPlay := inPlay } u
    obtain ⟨⟨ns, hns⟩, hexact⟩ := State.arms_handed { c with state := .armed, inPlay := inPlay } u
    have helement : ∀ e, _ := (u.transition .arm { c with state := .armed, inPlay := inPlay }).armEvent_spec
    generalize (u.transition .arm { c with state := .armed, inPlay := inPlay }).armEvent = t at *
    refine ⟨State.SamePorts.answered hports 0 _, ?_, ?_, fun q => ⟨ns.filter fun n => u.routes n q, ?_⟩, fun hfree jammed ordered hmem =>
      State.HandedAll.answered (hexact hfree jammed ordered hmem) 0 _, fun e => ?_, htiming, hstage, hstops,
      ⟨hscores.1, hscores.2⟩, hrosters, hrst, hpending, hclocks⟩
    · change t.clock = { c with state := .armed, inPlay := t.clock.inPlay }
      rw [hclock]
    · change ∀ a : Alliance, t.clock.inPlay.getLsbD a.val = true ↔ _
      rw [hclock]
      exact hplay
    · rw [State.answered_queue, hns q]
      rfl
    · obtain ⟨hidle, hdrives, harrives, hjams⟩ := helement e
      refine ⟨hidle, fun hb h0 => (hdrives hb h0).trans (Element.drive_eq _ _ _), harrives, fun hb hl => ?_⟩
      obtain ⟨last, he, hlast⟩ := hjams hb hl
      have hclaim : t.claim e = ⟨.blocked .jam, last, []⟩ := congrArg Element.claim he
      refine ⟨congrArg ClaimRecord.state hclaim, congrArg ClaimRecord.waiters hclaim, congrArg Element.motion he,
        congrArg Element.purpose he, congrArg Element.pulse he, fun hn => ?_⟩
      rw [hlast hn] at he
      exact he
  · exact exec_referee (c := .disarm 0) rfl rfl hh hu (State.disarmRequest_refused hm)
  · intro voided
    refine ⟨_, exec_referee (c := .disarm 0) rfl rfl hh hu (State.disarmRequest_disarms hm), ?_⟩
    obtain ⟨hports, hclock, hstage, hhanded, htiming, hstops, hscores, hrobots, hrst, hpending, hclocks⟩ :=
      State.disarms_frame { c with state := .setup, inPlay := 0 } u
    have helement := (u.transition .disarm { c with state := .setup, inPlay := 0 }).disarmEvent_element
    generalize (u.transition .disarm { c with state := .setup, inPlay := 0 }).disarmEvent = t at *
    exact ⟨State.SamePorts.answered hports 0 _, hclock, hstage, State.HandedAll.answered hhanded 0 _, helement,
      htiming, hstops, ⟨hscores.1, hscores.2⟩, hrobots, hrst, hpending, hclocks⟩

end Sys2Proof.Machine

namespace Sys2Proof.Machine

/-! # Phase profiles (R26, R27, Table 2-3) -/

/-! ## Fields from argument bytes -/

theorem inRange_eq_some {lo hi n : Nat} {v : Half} :
    inRange lo hi v = some n ↔ (lo ≤ v.toNat ∧ v.toNat ≤ hi) ∧ v.toNat = n := by
  simp [inRange]

@[simp] theorem carried_true {α : Type} (v : Option α) : carried true v = v.map some := rfl
@[simp] theorem carried_false {α : Type} (v : Option α) : carried false v = some none := rfl

theorem useOf_none {b : Byte} (h : 3 ≤ b.toNat) : useOf b = none := by
  unfold useOf
  split
  case h_4 => rfl
  all_goals exact absurd h (by decide)

theorem creditOf_fixed {b : Byte} {c : Alliance} : creditOf b = some (.fixed c) ↔ b.toNat = c.val := by
  unfold creditOf
  cases ha : allianceOf b with
  | some d =>
    have hd : b.toNat = d.val := indexOf_some.mp ha
    simp [hd, Fin.ext_iff]
  | none =>
    have hb : 4 ≤ b.toNat := indexOf_none.mp ha
    have hn : b.toNat ≠ c.val := by omega
    simp only [hn, iff_false]
    split <;> simp
theorem creditOf_holder {b : Byte} : creditOf b = some .holder ↔ b = 0x10 := by
  unfold creditOf
  cases ha : allianceOf b with
  | some d =>
    have hd : b.toNat = d.val := indexOf_some.mp ha
    simp only [Option.some.injEq, reduceCtorEq, false_iff]
    rintro rfl
    exact absurd d.isLt (by rw [← hd]; decide)
  | none => simp

/-- The credit of a goal with the use CLAIM is HOLDER (R26). -/
theorem claimCredit_iff {b : Byte} {c : Credit} :
    creditOf b = some c ∧ creditFits .claim c = true ↔ b = 0x10 ∧ c = .holder := by
  cases c with
  | fixed d => simp [creditFits]
  | holder => simp [creditFits, creditOf_holder]
/-- The credit of a goal with the use AUTO is a FIXED alliance (R26). -/
theorem autoCredit_iff {b : Byte} {c : Credit} :
    creditOf b = some c ∧ creditFits .auto c = true ↔ ∃ d : Alliance, b.toNat = d.val ∧ c = .fixed d := by
  cases c with
  | fixed d => simp [creditFits, creditOf_fixed]
  | holder => simp [creditFits]

/-! ## The profile stored for a pair -/

theorem profileOf_badUse {k : Kind} {a : ProfileArgs} (h : useOf a.use = none) : profileOf k a = none := by
  simp [profileOf, h]
/-- A pair that Table 2-3 does not list is refused. -/
theorem profileOf_unlisted {k : Kind} {u : Use} {a : ProfileArgs} (hu : useOf a.use = some u)
    (hf : pairFields k u = none) : profileOf k a = none := by
  simp [profileOf, hu, hf]
/-- The profile stored for a listed pair: the fields that it carries, each checked where it has a range or a form. -/
theorem profileOf_eq_some {k : Kind} {u : Use} {f : PairFields} {a : ProfileArgs} (hu : useOf a.use = some u)
    (hf : pairFields k u = some f) (pr : Profile) : profileOf k a = some pr ↔
    ∃ credit cooldown feedPeriod interval quota,
      carried f.credit ((creditOf a.credit).filter (creditFits u)) = some credit ∧
      carried f.cooldown (inRange 0 10000 a.cooldown) = some cooldown ∧
      carried f.feedPeriod (inRange 200 60000 a.feedPeriod) = some feedPeriod ∧
      carried f.interval (inRange 500 60000 a.interval) = some interval ∧
      carried f.quota (if a.quota.toNat ≤ 15 then some a.quota.toNat else none) = some quota ∧
      pr = ⟨u, if f.mask then some (a.mask.extractLsb' 0 4) else none, if f.hold then some a.hold.toNat else none,
        cooldown, if f.weight then some a.weight.toNat else none, credit, feedPeriod, interval, quota⟩ := by
  simp only [profileOf, hu, hf, Option.bind_eq_bind, Option.bind_some, Option.bind_eq_some_iff, Option.pure_def,
    Option.some.injEq, ← exists_and_left, eq_comm (b := pr)]

/-- Settles O42, pair by pair of Table 2-3. -/
theorem profileFieldsFollowPair : Obligations.ProfileFieldsFollowPair := by
  intro a fits mask hold cooldown weight
  refine ⟨fun _ => rfl, fun _ h => profileOf_badUse (useOf_none h), fun k hk => ?_, rfl, rfl, fun pr => ?_, fun pr => ?_,
    fun pr => ?_, fun pr => ?_, fun pr => ?_⟩
  · have unlisted : pairFields k .auto = none := by
      rcases hk with rfl | rfl | rfl <;> rfl
    exact profileOf_unlisted rfl unlisted
  · rw [profileOf_eq_some (u := .claim) rfl rfl]
    simp [inRange_eq_some, fits, mask, hold, cooldown]
  · rw [profileOf_eq_some (u := .auto) rfl rfl]
    simp [inRange_eq_some, fits]
  · rw [profileOf_eq_some (u := .claim) rfl rfl]
    simp [inRange_eq_some, claimCredit_iff, and_left_comm (a := a.credit = 16#8), fits, mask, hold, cooldown, weight]
  · rw [profileOf_eq_some (u := .auto) rfl rfl]
    simp [autoCredit_iff, weight]
  · rw [profileOf_eq_some (u := .claim) rfl rfl]
    simp [inRange_eq_some, fits, mask, hold, cooldown, weight]

end Sys2Proof.Machine

namespace Sys2Proof.Machine

/-! # The stage requests (R33 to R36) -/

theorem MatchState.stageOpens_iff {m : MatchState} : m.stageOpens = true ↔
    m = .armed ∨ m = .auto ∨ m = .brk ∨ m = .drive ∨ m = .endgame ∨ m = .halted := by
  cases m <;> simp [MatchState.stageOpens]

section
variable {s : State}

/-- The bodies of the stage requests by the match state and the stage state. -/
theorem State.stageOpenRequest_closed (h : ¬ s.clock.state.stageOpens = true) :
    s.stageOpenRequest = (s, refuse .phase) := if_pos (by simp [h])
theorem State.stageOpenRequest_used (h : s.clock.state.stageOpens = true) (hs : s.stage.state ≠ .empty) :
    s.stageOpenRequest = (s, refuse .stageState) := by
  rw [State.stageOpenRequest, if_neg (by simp [h])]
  cases hst : s.stage.state with
  | empty => exact absurd hst hs
  | opened | sealed => rfl
theorem State.stageOpenRequest_opens (h : s.clock.state.stageOpens = true) (hs : s.stage.state = .empty) :
    s.stageOpenRequest = ({ s with stage := ⟨.opened, Stage.reset.entries⟩ }, accept []) := by
  rw [State.stageOpenRequest, if_neg (by simp [h]), hs]
theorem State.stageSealRequest_unopened (hs : s.stage.state ≠ .opened) :
    s.stageSealRequest = (s, refuse .stageState) := by
  unfold State.stageSealRequest
  cases hst : s.stage.state with
  | opened => exact absurd hst hs
  | empty | sealed => rfl
theorem State.stageSealRequest_vacant (hs : s.stage.state = .opened) (hn : s.stage.count = 0) :
    s.stageSealRequest = (s, refuse .badArg) := by
  rw [State.stageSealRequest, hs]
  exact if_pos hn
theorem State.stageSealRequest_seals (hs : s.stage.state = .opened) (hn : 1 ≤ s.stage.count) :
    s.stageSealRequest = ({ s with stage := ⟨.sealed, s.stage.entries⟩ }, accept [byte s.stage.count]) := by
  rw [State.stageSealRequest, hs]
  exact if_neg (Nat.one_le_iff_ne_zero.mp hn)
theorem State.stageDiscardRequest_empty (hs : s.stage.state = .empty) :
    s.stageDiscardRequest = (s, refuse .stageState) := by
  rw [State.stageDiscardRequest, hs]
theorem State.stageDiscardRequest_discards (hs : s.stage.state ≠ .empty) :
    s.stageDiscardRequest = ({ s with stage := .reset }, accept [byte s.stage.count]) := by
  unfold State.stageDiscardRequest
  cases hst : s.stage.state with
  | empty => exact absurd hst hs
  | opened | sealed => rfl

end

/-- Settles O43, by the body of each request. -/
theorem stageIsOpenedSealedAndDiscarded : Obligations.StageIsOpenedSealedAndDiscarded := by
  intro s hh
  generalize hu : s.examined 0 = v
  intro u m opens st none24
  have hopens : m.stageOpens = true ↔ opens := MatchState.stageOpens_iff
  refine ⟨fun ho => ?_, fun ho hs => ?_, fun ho hs => ?_, fun hs => ?_, fun hs hn => ?_, fun hs hn => ?_, fun hs => ?_,
    fun hs => ?_⟩
  · exact exec_referee (c := .stageOpen 0) rfl rfl hh hu (State.stageOpenRequest_closed fun k => ho (hopens.mp k))
  · exact exec_referee (c := .stageOpen 0) rfl rfl hh hu (State.stageOpenRequest_used (hopens.mpr ho) hs)
  · exact exec_referee (c := .stageOpen 0) rfl rfl hh hu (State.stageOpenRequest_opens (hopens.mpr ho) hs)
  · exact exec_referee (c := .stageSeal 0) rfl rfl hh hu (State.stageSealRequest_unopened hs)
  · exact exec_referee (c := .stageSeal 0) rfl rfl hh hu (State.stageSealRequest_vacant hs hn)
  · exact exec_referee (c := .stageSeal 0) rfl rfl hh hu (State.stageSealRequest_seals hs hn)
  · exact exec_referee (c := .stageDiscard 0) rfl rfl hh hu (State.stageDiscardRequest_empty hs)
  · exact exec_referee (c := .stageDiscard 0) rfl rfl hh hu (State.stageDiscardRequest_discards hs)

end Sys2Proof.Machine

namespace Sys2Proof.Machine

/-! # SET PROFILE and STAGE PUT (R27, R34) -/

theorem elementOf_some {b : Byte} {e : Elem} (h : b.toNat = e.val) : elementOf b = some e := indexOf_some.mpr h
theorem elementOf_none {b : Byte} (h : 24 ≤ b.toNat) : elementOf b = none := indexOf_none.mpr h
theorem livePhaseOf_some (ph : LivePhase) : livePhaseOf (byte ph.code) = some ph := by cases ph <;> rfl
theorem livePhaseOf_none {b : Byte} (h : b ≠ 2 ∧ b ≠ 4 ∧ b ≠ 5) : livePhaseOf b = none := by
  obtain ⟨h2, h4, h5⟩ := h
  unfold livePhaseOf
  split
  · exact absurd rfl h2
  · exact absurd rfl h4
  · exact absurd rfl h5
  · rfl

/-! ## The plan profiles of an element -/

/-- The plan profiles after one is written. -/
theorem Element.plan_setPlan (x : Element) (ph other : LivePhase) (pr : Profile) :
    (x.setPlan ph pr).plan other = if other = ph then pr else x.plan other := by
  cases ph <;> cases other <;> rfl
/-- A write of a plan profile changes the plan profiles alone. -/
theorem Element.setPlan_frame (x : Element) (ph : LivePhase) (pr : Profile) : x.setPlan ph pr = { x with
    planAuto := (x.setPlan ph pr).plan .auto
    planDrive := (x.setPlan ph pr).plan .drive
    planEndgame := (x.setPlan ph pr).plan .endgame } := by cases ph <;> rfl

section
variable {s : State}

/-- SET PROFILE (R27) by its checks. -/
theorem State.profileRequest_closed {eb pb : Byte} {a : ProfileArgs} (hm : s.clock.state ≠ .setup) :
    s.profileRequest eb pb a = (s, refuse .phase) := if_pos hm
theorem State.profileRequest_badIndex {eb pb : Byte} {a : ProfileArgs} (hm : s.clock.state = .setup)
    (h : 24 ≤ eb.toNat ∨ (pb ≠ 2 ∧ pb ≠ 4 ∧ pb ≠ 5)) : s.profileRequest eb pb a = (s, refuse .badArg) := by
  have bad : elementOf eb = none ∨ livePhaseOf pb = none := h.imp elementOf_none livePhaseOf_none
  rw [State.profileRequest, if_neg (not_not.mpr hm)]
  split
  · rename_i he hp
    simp [he, hp] at bad
  · rfl
theorem State.profileRequest_unfit {eb : Byte} {e : Elem} {ph : LivePhase} {a : ProfileArgs} (hm : s.clock.state = .setup)
    (he : eb.toNat = e.val) (h : profileOf (s.element e).header.kind a = none) :
    s.profileRequest eb (byte ph.code) a = (s, refuse .badArg) := by
  rw [State.profileRequest, if_neg (not_not.mpr hm), elementOf_some he, livePhaseOf_some]
  dsimp only
  rw [h]
theorem State.profileRequest_stores {eb : Byte} {e : Elem} {ph : LivePhase} {a : ProfileArgs} {pr : Profile}
    (hm : s.clock.state = .setup) (he : eb.toNat = e.val) (h : profileOf (s.element e).header.kind a = some pr) :
    s.profileRequest eb (byte ph.code) a = (s.modifyElement e fun x => x.setPlan ph pr, accept (pr.bytes e ph)) := by
  rw [State.profileRequest, if_neg (not_not.mpr hm), elementOf_some he, livePhaseOf_some]
  dsimp only
  rw [h]

/-- STAGE PUT (R34) by its checks. -/
theorem State.stagePutRequest_unopened {eb : Byte} {a : ProfileArgs} (hs : s.stage.state ≠ .opened) :
    s.stagePutRequest eb a = (s, refuse .stageState) := by
  unfold State.stagePutRequest
  cases hst : s.stage.state with
  | opened => exact absurd hst hs
  | empty | sealed => rfl
theorem State.stagePutRequest_badIndex {eb : Byte} {a : ProfileArgs} (hs : s.stage.state = .opened)
    (h : 24 ≤ eb.toNat) : s.stagePutRequest eb a = (s, refuse .badArg) := by
  rw [State.stagePutRequest, hs, elementOf_none h]
theorem State.stagePutRequest_unfit {eb : Byte} {e : Elem} {a : ProfileArgs} (hs : s.stage.state = .opened)
    (he : eb.toNat = e.val) (h : profileOf (s.element e).header.kind a = none) :
    s.stagePutRequest eb a = (s, refuse .badArg) := by
  rw [State.stagePutRequest, hs, elementOf_some he]
  dsimp only
  rw [h]
theorem State.stagePutRequest_stores {eb : Byte} {e : Elem} {a : ProfileArgs} {pr : Profile}
    (hs : s.stage.state = .opened) (he : eb.toNat = e.val) (h : profileOf (s.element e).header.kind a = some pr) :
    s.stagePutRequest eb a = ({ s with stage := s.stage.put e pr }, accept [byte (s.stage.put e pr).count]) := by
  rw [State.stagePutRequest, hs, elementOf_some he]
  dsimp only
  rw [h]

end

/-! ## The number of stage entries -/

theorem Stage.count_eq_countP (st : Stage) : st.count = allElems.countP fun e => (st.entries.get e).isSome := by
  simp [Stage.count, Stage.listed, List.length_filterMap_eq_countP]
/-- The stage entries are those of the other elements, and the element's own if it has one. -/
theorem Stage.count_erase (st : Stage) (e : Elem) : st.count =
    (allElems.erase e).countP (fun i => (st.entries.get i).isSome) + if (st.entries.get e).isSome = true then 1 else 0 := by
  rw [Stage.count_eq_countP, (List.perm_cons_erase (mem_allElems e)).countP_eq, List.countP_cons]
/-- An entry put replaces the element's entry or adds one (R34). -/
theorem Stage.put_count (st : Stage) (e : Elem) (pr : Profile) : (st.put e pr).count =
    if (st.entries.get e).isSome = true then st.count else st.count + 1 := by
  have others : (allElems.erase e).countP (fun i => ((st.put e pr).entries.get i).isSome) =
      (allElems.erase e).countP fun i => (st.entries.get i).isSome := by
    refine List.countP_congr fun i hi => ?_
    rw [Stage.put, get_set_ne _ _ _ _ (allElems_nodup.mem_erase_iff.mp hi).1]
  have own : ((st.put e pr).entries.get e).isSome = true := by rw [Stage.put, get_set_self]; rfl
  rw [Stage.count_erase _ e, others, if_pos own, st.count_erase e]
  split <;> rfl

/-- Settles O41, by the checks of the two requests and the frame of each write. -/
theorem profilesAreStored : Obligations.ProfilesAreStored := by
  intro s eb a
  generalize hu : s.examined 0 = v
  intro u two stored
  have hstored : ∀ e ph pr, Profile.bytes e ph pr = stored e ph pr := by
    rintro e ph ⟨use, mask, hold, cooldown, weight, credit, feedPeriod, interval, quota⟩
    rcases credit with _ | _ | _ <;> cases ph <;> cases use <;> rfl
  refine ⟨fun pb hh => ⟨fun hm => ?_, fun hm h => ?_, fun e ph hm he hp => ⟨fun h => ?_, fun pr h => ?_⟩⟩,
    fun hh => ⟨fun hs => ?_, fun hs h => ?_, fun e hs he => ⟨fun h => ?_, fun pr h => ?_⟩⟩⟩
  · exact exec_referee (c := .setProfile 0 eb pb a) rfl rfl hh hu (State.profileRequest_closed hm)
  · exact exec_referee (c := .setProfile 0 eb pb a) rfl rfl hh hu (State.profileRequest_badIndex hm h)
  · subst hp
    exact exec_referee (c := .setProfile 0 eb _ a) rfl rfl hh hu (State.profileRequest_unfit hm he h)
  · subst hp
    have answer : padded 14 (pr.bytes e ph) = stored e ph pr := (padded_full (Nat.le_refl 14)).trans (hstored e ph pr)
    have run : exec (.setProfile 0 eb (byte ph.code) a) s =
        .next ((u.modifyElement e fun x => x.setPlan ph pr).answered 0 (0x00 :: stored e ph pr)) := by
      rw [← answer]
      exact exec_referee (c := .setProfile 0 eb _ a) rfl rfl hh hu (State.profileRequest_stores hm he h)
    have written : (u.modifyElement e fun x => x.setPlan ph pr).element e = (u.element e).setPlan ph pr :=
      State.element_modifyElement_self _ _ _
    refine ⟨_, run, State.answered_port_self _ _ _, fun q hq => State.answered_samePortsBut _ _ _ _ hq, ?_,
      fun other ho => ?_, ?_, fun e' he' => ?_, rfl⟩
    · rw [State.answered_element, written, Element.plan_setPlan, if_pos rfl]
    · rw [State.answered_element, written, Element.plan_setPlan, if_neg ho]
    · rw [State.answered_element, written]
      exact Element.setPlan_frame _ _ _
    · rw [State.answered_element, State.element_modifyElement_ne _ _ _ _ he']
  · exact exec_referee (c := .stagePut 0 eb a) rfl rfl hh hu (State.stagePutRequest_unopened hs)
  · exact exec_referee (c := .stagePut 0 eb a) rfl rfl hh hu (State.stagePutRequest_badIndex hs h)
  · exact exec_referee (c := .stagePut 0 eb a) rfl rfl hh hu (State.stagePutRequest_unfit hs he h)
  · intro st
    have put : u.stage.put e pr = st := by rw [Stage.put, hs]
    rw [← put]
    exact ⟨exec_referee (c := .stagePut 0 eb a) rfl rfl hh hu (State.stagePutRequest_stores hs he h),
      Stage.put_count _ _ _⟩

end Sys2Proof.Machine

namespace Sys2Proof.Machine

/-! # SET ELEMENT (R24, R25) -/

/-! ## Header fields from argument bytes -/

theorem kindOf_some {b : Byte} {k : Kind} : kindOf b = some k ↔ b = byte k.code := by
  constructor
  · unfold kindOf
    split
    case h_6 => exact fun h => by cases h
    all_goals rintro ⟨⟩; rfl
  · rintro rfl
    cases k <;> rfl
theorem kindOf_of_le : ∀ b : Byte, b.toNat ≤ 4 → kindOf b = some (if b = 1 then .gate else if b = 2 then .dispenser
    else if b = 3 then .goal else if b = 4 then .beacon else .none) := by decide
theorem kindOf_none {b : Byte} (h : 5 ≤ b.toNat) : kindOf b = none := by
  unfold kindOf
  split
  case h_6 => rfl
  all_goals exact absurd h (by decide)
theorem edgeOf_eq : ∀ b : BitVec 2, edgeOf b =
    if b.toNat = 3 then none
    else some (if b.toNat = 0 then .active else if b.toNat = 1 then .release else .any) := by decide
theorem senseSettingOf_eq (b : Byte) : senseSettingOf b =
    if b.toNat / 16 % 4 = 3 then none
    else some ⟨b.getLsbD 7, b.toNat % 16,
      if b.toNat / 16 % 4 = 0 then .active else if b.toNat / 16 % 4 = 1 then .release else .any⟩ := by
  have edge : (b.extractLsb' 4 2).toNat = b.toNat / 16 % 4 := by
    simp [BitVec.extractLsb'_toNat, Nat.shiftRight_eq_div_pow]
  have filter : (b.extractLsb' 0 4).toNat = b.toNat % 16 := by
    simp [BitVec.extractLsb'_toNat]
  rw [senseSettingOf, edgeOf_eq, edge, filter]
  split <;> rfl
/-- A stored sense setting reads back as its byte, with the ignored bit 6 zero (R24). -/
theorem senseSettingOf_code : ∀ (b : Byte), ∀ x ∈ senseSettingOf b, byte x.code = b &&& 0xBF := by decide
/-- A stored drive polarity reads back as its byte, with the ignored bits 7 to 2 zero (R24). -/
theorem driveCode_eq : ∀ b : Byte,
    byte ((if b.getLsbD 0 then 1 else 0) + (if b.getLsbD 1 then 2 else 0)) = b &&& 0x03 := by decide

/-! ## The header stored -/

/-- The figures that a kind keeps lie in their ranges of Table 2-1. -/
def Kind.figuresFit (k : Kind) (v1 v2 : Half) : Bool :=
  match k with
  | .gate => (100 ≤ v1.toNat && v1.toNat ≤ 30000) && (10 ≤ v2.toNat && v2.toNat ≤ 2000)
  | .dispenser => 10 ≤ v1.toNat && v1.toNat ≤ 2000
  | .goal => 0 ≤ v1.toNat && v1.toNat ≤ 5000
  | .none | .beacon => true
/-- The header of a kind with its figures, whether or not they are in range. -/
def Header.ofArgs (a : HeaderArgs) (k : Kind) (g : Group) (s0 s1 : SenseSetting) : Header :=
  ⟨k, g, s0, s1, a.drive.getLsbD 0, a.drive.getLsbD 1,
    if k = .gate then some a.value1.toNat else none, if k = .gate then some a.value2.toNat else none,
    if k = .dispenser then some a.value1.toNat else none, if k = .goal then some a.value1.toNat else none⟩

theorem kindValuesOf_eq (k : Kind) (v1 v2 : Half) : kindValuesOf k v1 v2 =
    if k.figuresFit v1 v2 then
      some (if k = .gate then some v1.toNat else none, if k = .gate then some v2.toNat else none,
        if k = .dispenser then some v1.toNat else none, if k = .goal then some v1.toNat else none)
    else none := by
  cases k with
  | none | beacon => rfl
  | dispenser =>
    rw [kindValuesOf, inRange, Kind.figuresFit]
    split <;> rfl
  | goal =>
    rw [kindValuesOf, inRange, Kind.figuresFit]
    split <;> rfl
  | gate =>
    simp only [kindValuesOf, inRange, Kind.figuresFit]
    generalize (decide (100 ≤ v1.toNat) && decide (v1.toNat ≤ 30000)) = motionFits
    generalize (decide (10 ≤ v2.toNat) && decide (v2.toNat ≤ 2000)) = brakeFits
    cases motionFits <;> cases brakeFits <;> rfl

section
variable {a : HeaderArgs} {k : Kind} {g : Group} {s0 s1 : SenseSetting}

theorem headerOf_fits (hk : kindOf a.kind = some k) (hg : a.group.toNat = g.val) (h0 : senseSettingOf a.s0 = some s0)
    (h1 : senseSettingOf a.s1 = some s1) (hf : k.figuresFit a.value1 a.value2 = true) :
    headerOf a = some (.ofArgs a k g s0 s1) := by
  simp [headerOf, hk, indexOf_some.mpr hg, h0, h1, kindValuesOf_eq, hf, Header.ofArgs]
theorem headerOf_unfit (hk : kindOf a.kind = some k) (hf : k.figuresFit a.value1 a.value2 = false) :
    headerOf a = none := by
  simp [headerOf, hk, kindValuesOf_eq, hf]
theorem headerOf_badField (h : kindOf a.kind = none ∨ indexOf 4 a.group = none ∨ senseSettingOf a.s0 = none ∨
    senseSettingOf a.s1 = none) : headerOf a = none := by
  rcases h with h | h | h | h <;> simp [headerOf, h]

/-- The answer bytes of a stored header: figures that the kind does not keep are zero (R24, R171). -/
theorem Header.ofArgs_bytes (e : Elem) (hk : kindOf a.kind = some k) (h0 : senseSettingOf a.s0 = some s0)
    (h1 : senseSettingOf a.s1 = some s1) : (Header.ofArgs a k g s0 s1).bytes e =
    [indexByte e, a.kind, indexByte g, a.s0 &&& 0xBF, a.s1 &&& 0xBF, a.drive &&& 0x03] ++
      (if (k = .gate || k = .dispenser || k = .goal) = true then bytes2 a.value1.toNat else [0x00, 0x00]) ++
      (if decide (k = .gate) = true then bytes2 a.value2.toNat else [0x00, 0x00]) := by
  rw [← senseSettingOf_code a.s0 s0 h0, ← senseSettingOf_code a.s1 s1 h1, ← driveCode_eq a.drive, kindOf_some.mp hk]
  have zero : bytes2 0 = [0x00, 0x00] := by decide
  cases k <;> simp [Header.bytes, Header.ofArgs, Header.driveCode, zero]

end

/-! ## The request -/

/-- A port after the snapshot entries of an element are voided (R183). -/
theorem State.voidSnapshots_port_eq (e : Elem) (s : State) (q : Port) : (s.voidSnapshots e).port q =
    { s.port q with snapshot := (s.port q).snapshot.map fun y => if y.element = e then ⟨e, none⟩ else y } := by
  rw [State.voidSnapshots_port, PortRecord.mapSnapshot]
  congr 2
  funext y
  split
  case isTrue h => rw [SnapEntry.void, h]
  case isFalse => rfl
/-- An answer changes the frame of a port alone. -/
theorem State.answered_port_frame (p q : Port) (bytes : List Byte) (s : State) : (s.answered p bytes).port q =
    { s.port q with frame := ((s.answered p bytes).port q).frame } := by
  by_cases h : q = p
  · rw [h, State.answered_port_self]
  · rw [State.answered_samePortsBut _ _ _ _ h]

section
variable {s : State} {eb : Byte} {a : HeaderArgs}

/-- SET ELEMENT (R24) by its checks. -/
theorem State.elementRequest_closed (hm : s.clock.state ≠ .setup) : s.elementRequest eb a = (s, refuse .phase) :=
  if_pos hm
theorem State.elementRequest_badArg (hm : s.clock.state = .setup) (h : elementOf eb = none ∨ headerOf a = none) :
    s.elementRequest eb a = (s, refuse .badArg) := by
  rw [State.elementRequest, if_neg (not_not.mpr hm)]
  split
  · rename_i he ha
    simp [he, ha] at h
  · rfl

section
variable {e : Elem} {h : Header} (hm : s.clock.state = .setup) (he : eb.toNat = e.val) (ha : headerOf a = some h)
include hm he ha

/-- SET ELEMENT with its arguments valid: the field stops, then the pulse unit, then the write (R24, R25). -/
theorem State.elementRequest_eq : s.elementRequest eb a =
    if (s.stop (s.element e).header.group).asserted || (s.stop h.group).asserted then (s, refuse .fieldActive)
    else if (s.element e).pulse.mode ≠ .idle then (s, refuse .busy)
    else ((s.modifyElement e (Element.writeHeader h)).voidSnapshots e, accept (h.bytes e)) := by
  rw [State.elementRequest, if_neg (not_not.mpr hm), elementOf_some he, ha]
theorem State.elementRequest_stopped
    (hs : (s.stop (s.element e).header.group).asserted = true ∨ (s.stop h.group).asserted = true) :
    s.elementRequest eb a = (s, refuse .fieldActive) := by
  rw [State.elementRequest_eq hm he ha, if_pos (Bool.or_eq_true_iff.mpr hs)]
theorem State.elementRequest_busy
    (hs : ¬ ((s.stop (s.element e).header.group).asserted = true ∨ (s.stop h.group).asserted = true))
    (hp : (s.element e).pulse.mode ≠ .idle) : s.elementRequest eb a = (s, refuse .busy) := by
  rw [State.elementRequest_eq hm he ha, if_neg (mt Bool.or_eq_true_iff.mp hs), if_pos hp]
theorem State.elementRequest_writes
    (hs : ¬ ((s.stop (s.element e).header.group).asserted = true ∨ (s.stop h.group).asserted = true))
    (hp : (s.element e).pulse.mode = .idle) : s.elementRequest eb a =
      ((s.modifyElement e (Element.writeHeader h)).voidSnapshots e, accept (h.bytes e)) := by
  rw [State.elementRequest_eq hm he ha, if_neg (mt Bool.or_eq_true_iff.mp hs), if_neg (not_not.mpr hp)]

end

end

/-- Settles O40, by the first check of the request that fails, and by the write where none does. -/
theorem elementHeaderIsWritten : Obligations.ElementHeaderIsWritten := by
  intro s eb a hh
  generalize hu : s.examined 0 = v
  intro u run refused setting fits figures kind
  have hsetting : ∀ b, senseSettingOf b = setting b := senseSettingOf_eq
  have hkind : a.kind.toNat ≤ 4 → kindOf a.kind = some kind := kindOf_of_le _
  have hfigures : kind.figuresFit a.value1 a.value2 = figures := by
    simp only [kind, figures]
    split_ifs <;> rfl
  refine ⟨fun hm => ?_, fun hm h => ?_, fun e g s0 s1 hm he hcode hg h0 h1 hf => ?_⟩
  · exact exec_referee (c := .setElement 0 eb a) rfl rfl hh hu (State.elementRequest_closed hm)
  · have bad : elementOf eb = none ∨ headerOf a = none := by
      rcases h with h | h | h | h | h | h
      · exact .inl (elementOf_none h)
      · exact .inr (headerOf_badField (.inl (kindOf_none h)))
      · exact .inr (headerOf_badField (.inr (.inl (indexOf_none.mpr h))))
      · exact .inr (headerOf_badField (.inr (.inr (.inl ((hsetting _).trans h)))))
      · exact .inr (headerOf_badField (.inr (.inr (.inr ((hsetting _).trans h)))))
      · by_cases hk : a.kind.toNat ≤ 4
        · exact .inr (headerOf_unfit (hkind hk) (hfigures.trans h))
        · exact .inr (headerOf_badField (.inl (kindOf_none (Nat.lt_of_not_le hk))))
    exact exec_referee (c := .setElement 0 eb a) rfl rfl hh hu (State.elementRequest_badArg hm bad)
  · have hk := hkind hcode
    rw [← hsetting] at h0 h1
    rw [← hfigures] at hf
    clear_value kind
    intro x stops v1 v2 kept h
    have ha : headerOf a = some h := headerOf_fits hk hg h0 h1 hf
    refine ⟨fun hs => ?_, fun hs hp => ?_, fun hs hp => ?_⟩
    · exact exec_referee (c := .setElement 0 eb a) rfl rfl hh hu (State.elementRequest_stopped hm he ha hs)
    · exact exec_referee (c := .setElement 0 eb a) rfl rfl hh hu (State.elementRequest_busy hm he ha hs hp)
    · have answer : padded 10 (h.bytes e) =
          [indexByte e, a.kind, indexByte g, a.s0 &&& 0xBF, a.s1 &&& 0xBF, a.drive &&& 0x03] ++
            kept (kind = .gate || kind = .dispenser || kind = .goal) v1 ++ kept (kind = .gate) v2 :=
        (padded_full (Nat.le_refl 10)).trans (Header.ofArgs_bytes e hk h0 h1)
      have accepted : run = .next (((u.modifyElement e (Element.writeHeader h)).voidSnapshots e).answered 0
          (0x00 :: padded 10 (h.bytes e))) :=
        exec_referee (c := .setElement 0 eb a) rfl rfl hh hu (State.elementRequest_writes hm he ha hs hp)
      rw [answer] at accepted
      refine ⟨_, accepted, ?_, fun q hq => ?_, ?_, fun e' he' => ?_, fun q => ?_, rfl⟩
      · rw [State.answered_port_self]
        rfl
      · rw [State.answered_samePortsBut _ _ _ _ hq, State.voidSnapshots_port_eq]
        rfl
      · exact State.element_modifyElement_self _ _ _
      · exact State.element_modifyElement_ne _ _ _ _ he'
      · rw [State.answered_port_frame, State.voidSnapshots_port_eq]
        rfl

end Sys2Proof.Machine

namespace Sys2Proof.Machine

/-! # The ranges of the roster (R43, R44, R47, R51), record by record -/

/-- The law of one robot record: its ranges, its binding to a bridge port, and no standing or strike in SETUP and ARMED. -/
def RobotRecord.InRoster (bridge : Port → Bool) (m : MatchState) (x : RobotRecord) : Prop :=
  x.Ok ∧ x.bound.all bridge = true ∧ (m = .setup ∨ m = .armed → x.standing = .clear ∧ x.strikes = 0)
/-- The law of one port record: its silence timer, and the link of a port that is no bridge port or before START. -/
def PortRecord.InRoster (bridge : Bool) (m : MatchState) (x : PortRecord) : Prop :=
  x.silence ≤ 2000 ∧ (bridge = false ∨ m = .setup ∨ m = .armed → x.link = .live ∧ x.silenceDue = false) ∧
  (bridge = false → x.silence = 0)

/-- The laws of `State.RosterOk`, record by record. -/
structure State.InRoster (s : State) : Prop where
  robots : ∀ r, (s.robot r).InRoster s.isBridge s.clock.state
  limit : s.timing.silence ≤ 2000
  ports : ∀ q, (s.port q).InRoster (s.isBridge q) s.clock.state

theorem State.rosterOk_iff {s : State} : s.RosterOk ↔ s.InRoster :=
  ⟨fun ⟨robots, limit, ports⟩ => ⟨robots, limit, ports⟩, fun ⟨robots, limit, ports⟩ => ⟨robots, limit, ports⟩⟩

/-- The law of a robot record does not read the mirrors of the claim table. -/
theorem RobotRecord.inRoster_of_own {bridge : Port → Bool} {m : MatchState} {x y : RobotRecord} (h : y.own = x.own)
    (k : x.InRoster bridge m) : y.InRoster bridge m := by
  have : x.own.InRoster bridge m := k
  rw [← h] at this
  exact this
/-- The law of a port record does not read its notice queue. -/
theorem PortRecord.inRoster_of_besideQueue {bridge : Bool} {m : MatchState} {x y : PortRecord}
    (h : y.besideQueue = x.besideQueue) (k : x.InRoster bridge m) : y.InRoster bridge m := by
  have : x.besideQueue.InRoster bridge m := k
  rw [← h] at this
  exact this
/-- Outside SETUP and ARMED the laws do not read the match state. -/
theorem RobotRecord.InRoster.started {bridge : Port → Bool} {m m' : MatchState} {x : RobotRecord}
    (h : x.InRoster bridge m) (hs : m' ≠ .setup) (ha : m' ≠ .armed) : x.InRoster bridge m' :=
  ⟨h.1, h.2.1, fun k => (k.elim hs ha).elim⟩
theorem PortRecord.InRoster.started {bridge : Bool} {m m' : MatchState} {x : PortRecord}
    (h : x.InRoster bridge m) (hs : m' ≠ .setup) (ha : m' ≠ .armed) : x.InRoster bridge m' :=
  ⟨h.1, fun k => h.2.1 (.inl (k.resolve_right fun k => k.elim hs ha)), h.2.2⟩

/-- The laws are kept where the roles are, and each record keeps its own. -/
theorem State.InRoster.change {s t : State} (h : s.InRoster) (strap : ∀ q, (t.port q).strap = (s.port q).strap)
    (silence : t.timing.silence ≤ 2000)
    (robots : ∀ r, (s.robot r).InRoster s.isBridge s.clock.state → (t.robot r).InRoster s.isBridge t.clock.state)
    (ports : ∀ q, (s.port q).InRoster (s.isBridge q) s.clock.state →
      (t.port q).InRoster (s.isBridge q) t.clock.state) : t.InRoster := by
  have bridges : t.isBridge = s.isBridge := funext fun q => by rw [State.isBridge, State.role_congr (strap q)]; rfl
  exact ⟨fun r => bridges ▸ robots r (h.robots r), silence, fun q => bridges ▸ ports q (h.ports q)⟩

/-- What arbiter and engines do keeps the laws. -/
theorem State.Plays.inRoster {s t : State} (k : s.Plays t) (h : s.InRoster) : t.InRoster :=
  h.change k.settles.strap (by rw [k.same.timing]; exact h.limit)
    (fun r => by rw [k.clock]; exact RobotRecord.inRoster_of_own (k.rosters r))
    (fun q => by rw [k.clock]; exact PortRecord.inRoster_of_besideQueue (k.ports q))
theorem State.Arbitrates.inRoster {s t : State} (k : s.Arbitrates t) (h : s.InRoster) : t.InRoster := k.plays.inRoster h

section
variable {s : State} (h : s.InRoster)
include h

/-- The write of a port record that keeps the law of it and its role. -/
theorem State.InRoster.modifyPort {p : Port} {f : PortRecord → PortRecord} (strap : (f (s.port p)).strap = (s.port p).strap)
    (law : (f (s.port p)).InRoster (s.isBridge p) s.clock.state) : (s.modifyPort p f).InRoster := by
  refine h.change (State.modifyPort_steady s strap).strap h.limit (fun _ k => k) fun q k => ?_
  rw [State.port_modifyPort]
  split
  · rename_i hq; subst hq; exact law
  · exact k
/-- The write of a robot record that keeps the law of it. -/
theorem State.InRoster.setRobot {r : Robot} {x : RobotRecord} (law : x.InRoster s.isBridge s.clock.state) :
    (s.setRobot r x).InRoster := by
  refine h.change (fun _ => rfl) h.limit (fun r' k => ?_) fun _ k => k
  rw [State.robot_setRobot]
  split
  · exact law
  · exact k

/-! ## Events of the roster and of the lines -/

/-- A port whose silence expiry is due is a bridge port after START (R53). -/
theorem State.InRoster.started_of_silenceDue {p : Port} (hd : s.silenceDue p = true) :
    s.isBridge p = true ∧ s.clock.state ≠ .setup ∧ s.clock.state ≠ .armed := by
  have law := (h.ports p).2.1
  refine ⟨?_, fun k => ?_, fun k => ?_⟩
  · rw [← Bool.not_eq_false]
    exact fun k => by simp [State.silenceDue, (law (.inl k)).2] at hd
  · simp [State.silenceDue, (law (.inr (.inl k))).2] at hd
  · simp [State.silenceDue, (law (.inr (.inr k))).2] at hd
theorem State.InRoster.silenceExpiry {p : Port} (hd : s.silenceDue p = true) : (s.silenceExpiry p).InRoster := by
  obtain ⟨hb, hs, ha⟩ := h.started_of_silenceDue hd
  have stale : (s.modifyPort p fun x => { x with link := .stale, silenceDue := false }).InRoster := by
    refine h.modifyPort rfl ⟨(h.ports p).1, fun k => ?_, fun k => by simp [hb] at k⟩
    rcases k with k | k | k
    exacts [by simp [hb] at k, (hs k).elim, (ha k).elim]
  exact ((State.forEach_arbitrates (fun r t => (State.raiseRobot_arbitrates .stale r t).trans
    (State.unseat_arbitrates r .stale _ s)) _).trans (State.forEach_arbitrates State.finishReturn_arbitrates _)).inRoster
    stale
theorem State.InRoster.takeSilences : s.takeSilences.InRoster :=
  State.forEach_keeps State.InRoster (fun p _ t ht => by
    split
    · exact ht.silenceExpiry ‹_›
    · exact ht) h
theorem State.InRoster.benchExpiry {r : Robot} (hd : s.benchDue r = true) : (s.benchExpiry r).InRoster := by
  obtain ⟨⟨hstrikes, hout, hbench, -, hbound⟩, hport, hearly⟩ := h.robots r
  simp only [State.benchDue, Bool.and_eq_true, decide_eq_true_eq] at hd
  obtain ⟨hb, hz⟩ := hd
  refine (State.raiseRobot_arbitrates .cleared r _).inRoster (h.setRobot ⟨⟨hstrikes, ?_, hbench, ?_, hbound⟩, hport, ?_⟩)
  · rw [← hout, hb]
    simp
  · simp [hz]
  · exact fun k => absurd (hearly k).1 (by simp [hb])
theorem State.InRoster.setStop (g : Group) (x : FieldStop) : (s.setStop g x).InRoster :=
  h.change (fun _ => rfl) h.limit (fun _ k => k) fun _ k => k
theorem State.InRoster.modifyElement (e : Elem) (f : Element → Element) : (s.modifyElement e f).InRoster :=
  h.change (fun _ => rfl) h.limit (fun _ k => k) fun _ k => k
theorem State.InRoster.assertStop (g : Group) : (s.assertStop g).InRoster :=
  ((State.raise_arbitrates _ _ _ _ _ _).trans (State.forEach_arbitrates State.stopElement_arbitrates _)).inRoster
    (h.setStop g _)
theorem State.InRoster.releaseStop (g : Group) : (s.releaseStop g).InRoster :=
  (State.raise_arbitrates _ _ _ _ _ _).inRoster (h.setStop g _)
theorem State.InRoster.takeStop (g : Group) : (s.takeStop g).InRoster := by
  unfold State.takeStop
  repeat' split
  · exact h.assertStop g
  · exact h.releaseStop g
  · exact h
theorem State.InRoster.acceptSense (e : Elem) (i : SenseId) : (s.acceptSense e i).InRoster := by
  have flipped := h.modifyElement e fun x => x.setSense i ⟨!(x.sense i).high, none⟩
  unfold State.acceptSense
  dsimp only
  repeat' split
  all_goals first
    | exact flipped
    | exact (State.jam_arbitrates _ _).inRoster flipped
    | exact (State.takePiece_plays _ _).inRoster flipped
    | exact flipped.modifyElement _ _
theorem State.InRoster.frameComplete (p : Port) : (s.frameComplete p).InRoster := by
  unfold State.frameComplete
  dsimp only
  split
  · rename_i hb
    have live := h.modifyPort (p := p)
      (f := fun x => { x with link := .live, silence := s.timing.silence, silenceDue := false }) rfl
      ⟨h.limit, fun _ => ⟨rfl, rfl⟩, fun k => by simp [hb] at k⟩
    split
    · exact (State.forEach_arbitrates (State.raiseRobot_arbitrates .live) _).inRoster live
    · exact live
  · exact h

/-! ## Boundaries and ticks -/

/-- A boundary after START keeps the laws: timers of bridge ports alone are reloaded (R55). -/
theorem State.InRoster.enter (reason : Reason) {c : Clock} (hs : c.state ≠ .setup) (ha : c.state ≠ .armed) :
    (s.enter reason c).InRoster := by
  have hr : ∀ r, (s.prepared reason c).robot r = s.robot r := fun r => by
    rw [State.prepared_eq, State.stageAtBoundary_eq]; rfl
  refine (State.enter_arbitrates reason c s).inRoster (h.change (fun q => ?_) ?_ (fun r k => ?_) fun q k => ?_)
  · change ((s.prepared reason c).port q).strap = _
    rw [State.prepared_port]
  · exact (congrArg (fun u => u.timing.silence) (State.prepared_eq reason c s)).trans_le h.limit
  · change ((s.prepared reason c).robot r).InRoster _ (s.prepared reason c).clock.state
    rw [hr, State.prepared_clock]
    exact k.started hs ha
  · change ((s.prepared reason c).port q).InRoster _ (s.prepared reason c).clock.state
    rw [State.prepared_port, State.prepared_clock]
    obtain ⟨hle, hlink, hzero⟩ := k.started hs ha
    refine ⟨?_, hlink, fun hb => ?_⟩ <;> dsimp only
    · split
      · exact h.limit
      · exact hle
    · rw [if_neg fun k => by simp [State.isBridge, k.2] at hb]
      exact hzero hb


end

/-- The clock that START or a timed transition enters is neither in SETUP nor in ARMED (R13 to R15). -/
theorem State.driveEntry_started (s : State) : s.driveEntry.state ≠ .setup ∧ s.driveEntry.state ≠ .armed := by
  unfold State.driveEntry
  dsimp only
  split <;> simp
theorem State.afterAuto_started (s : State) : s.afterAuto.state ≠ .setup ∧ s.afterAuto.state ≠ .armed := by
  unfold State.afterAuto
  split
  · simp
  · exact s.driveEntry_started
theorem State.afterStart_started (s : State) : s.afterStart.state ≠ .setup ∧ s.afterStart.state ≠ .armed := by
  unfold State.afterStart
  split
  · simp
  · exact s.driveEntry_started

section
variable {s : State} (h : s.InRoster)
include h

theorem State.InRoster.autoExpiry : s.autoExpiry.InRoster := by
  unfold State.autoExpiry
  dsimp only
  split
  · exact h.takeSilences.enter .time (State.afterAuto_started _).1 (State.afterAuto_started _).2
  · exact h.enter .time s.afterAuto_started.1 s.afterAuto_started.2
theorem State.InRoster.breakExpiry : s.breakExpiry.InRoster :=
  h.takeSilences.enter .time (State.driveEntry_started _).1 (State.driveEntry_started _).2
theorem State.InRoster.thresholdReached : s.thresholdReached.InRoster :=
  h.takeSilences.enter .time (by simp) (by simp)
theorem State.InRoster.naturalFinish : s.naturalFinish.InRoster := h.enter .time (by simp) (by simp)
theorem State.InRoster.takePhase : s.takePhase.InRoster := by
  unfold State.takePhase
  repeat' split
  exacts [h.autoExpiry, h.breakExpiry, h.thresholdReached, h.naturalFinish, h]

/-- What a tick leaves outstanding keeps the laws. -/
theorem State.InRoster.settled : s.settled.InRoster := by
  have silences := h.takeSilences
  have benches : (s.takeSilences.takeEach allRobots State.benchDue State.benchExpiry).InRoster :=
    State.forEach_keeps State.InRoster (fun r _ t ht => by
      split
      · exact ht.benchExpiry ‹_›
      · exact ht) silences
  have lines {t : State} (ht : t.InRoster) (i : SenseId) :
      (t.takeEach allElems (State.senseDue i) (State.acceptSense · i)).InRoster :=
    State.forEach_keeps State.InRoster (fun e _ t ht => by
      split
      · exact ht.acceptSense e i
      · exact ht) ht
  have events {t : State} (ht : t.InRoster) {due : State → Elem → Bool} {act : Elem → State → State}
      (k : ∀ e (u : State), u.Arbitrates (act e u)) : (t.takeEach allElems due act).InRoster :=
    (State.forEach_arbitrates (fun e u => by
      split
      · exact k e u
      · exact .refl u) t).inRoster ht
  have units := (State.forEach_plays (xs := allElems) State.takePulse_plays _).inRoster benches
  have changes {t : State} (ht : t.InRoster) : (t.forEach allGroups State.takeStop).InRoster :=
    State.forEach_keeps State.InRoster (fun g _ _ ht => ht.takeStop g) ht
  unfold State.settled
  exact (events (events (events (changes (lines (lines (events units State.timerExpiry_arbitrates) .s0) .s1))
    State.startPendingFeed_arbitrates) State.takeArrival_arbitrates) State.settleReturn_arbitrates).takePhase
theorem State.InRoster.examined (p : Port) : (s.examined p).InRoster := h.settled.frameComplete p

/-- The counting of a tick keeps the laws: benches and silence timers only fall (R49, R53). -/
theorem State.InRoster.count (sense : BitVec 48) (fs : BitVec 4) : (s.count sense fs).InRoster := by
  have phase : (s.count sense fs).clock.state = s.clock.state := by
    rw [State.count_clock]
    split <;> rfl
  refine h.change (s.count_settles sense fs).strap h.limit (fun r k => ?_) fun q k => ?_
  · rw [phase, State.count_robot]
    obtain ⟨⟨hstrikes, hout, hbench, hbenched, hbound⟩, hport, hearly⟩ := k
    refine ⟨⟨hstrikes, hout, ?_, fun hpos => hbenched ?_, hbound⟩, hport, hearly⟩
    all_goals dsimp only at *; split at * <;> omega
  · rw [phase, State.count_port]
    split
    · rename_i hc
      obtain ⟨hlive, hbridge, -⟩ := hc
      refine ⟨(Nat.sub_le _ _).trans k.1, fun hk => ?_, fun hb => by simp [hbridge] at hb⟩
      rcases hk with hk | hk | hk
      · simp [hbridge] at hk
      all_goals simp [hk, MatchState.isLive] at hlive
    · exact k

/-- Every event that is due keeps the laws. -/
theorem State.InRoster.event {c : Instr} {due : State → Bool} {act : State → State}
    (hc : eventOf c = some (due, act)) (hd : due s = true) : (act s).InRoster := by
  cases c <;> cases hc
  case autoExpiry => exact h.autoExpiry
  case breakExpiry => exact h.breakExpiry
  case endgameThreshold => exact h.thresholdReached
  case naturalFinish => exact h.naturalFinish
  case feedPendingStart e => exact (State.startPendingFeed_arbitrates e s).inRoster h
  case benchExpiry r => exact h.benchExpiry hd
  case silenceExpiry p => exact h.silenceExpiry hd
  case shotExpiry e => exact (State.shotExpiry_arbitrates e s).inRoster h
  case rateExpiry e => exact (State.rateExpiry_plays e s).inRoster h
  case waveHalfChange e => exact (State.waveChange_arbitrates e s).inRoster h
  case strobeExpiry e => exact (State.strobeExpiry_arbitrates e s).inRoster h
  case claimTimerExpiry e => exact (State.timerExpiry_arbitrates e s).inRoster h
  case senseChangeAccepted e i => exact h.acceptSense e i
  case fieldStopAsserted g => exact h.assertStop g
  case fieldStopReleased g => exact h.releaseStop g
  case gateArrival e => exact (State.takeArrival_arbitrates e s).inRoster h
  case returnEnd e => exact (State.takeReturnEnd_arbitrates e s).inRoster h

/-! ## Requests -/

/-- A transition without a boundary between match states that the laws do not tell apart. -/
theorem State.InRoster.transition (reason : Reason) {c : Clock}
    (hm : c.state = .setup ∨ c.state = .armed → s.clock.state = .setup ∨ s.clock.state = .armed) :
    (s.transition reason c).InRoster := by
  refine (State.raise_arbitrates _ _ _ _ _ _).inRoster (h.change (t := s.setClock c) (fun _ => rfl) h.limit
    (fun r k => ⟨k.1, k.2.1, fun hc => k.2.2 (hm hc)⟩) fun q k => ⟨k.1, fun hc => k.2.1 (hc.imp_right hm), k.2.2⟩)
theorem State.InRoster.setStage (st : Stage) : { s with stage := st }.InRoster := ⟨h.robots, h.limit, h.ports⟩
theorem State.InRoster.voidStage : s.voidStage.InRoster := by
  unfold State.voidStage
  split
  · exact h
  all_goals exact (State.raise_arbitrates _ _ _ _ _ _).inRoster (h.setStage _)
theorem State.InRoster.armRequest : s.armRequest.1.InRoster := by
  unfold State.armRequest
  split
  · exact h
  · split
    · exact h
    · split
      · exact h
      · dsimp only
        exact (State.armEvent_arbitrates _).inRoster (h.transition .arm fun _ => .inl (not_not.mp ‹_›))
theorem State.InRoster.disarmRequest : s.disarmRequest.1.InRoster := by
  unfold State.disarmRequest
  split
  · exact h
  · dsimp only
    exact (State.disarmEvent_arbitrates _).inRoster
      (h.transition .disarm fun _ => .inr (not_not.mp ‹_›)).voidStage
theorem State.InRoster.startRequest : s.startRequest.1.InRoster := by
  unfold State.startRequest
  split
  · exact h
  · split
    · exact h
    · dsimp only
      exact h.enter .start s.afterStart_started.1 s.afterStart_started.2
theorem State.InRoster.abortRequest : s.abortRequest.1.InRoster := by
  unfold State.abortRequest
  split
  · dsimp only
    exact h.enter .abort (by simp) (by simp)
  · exact h
theorem State.InRoster.haltRequest : s.haltRequest.1.InRoster := by
  unfold State.haltRequest
  split
  · dsimp only
    exact (State.announceEnables_arbitrates _ _).inRoster (h.transition .halt (by simp))
  · split <;> exact h
theorem State.InRoster.resumeRequest : s.resumeRequest.1.InRoster := by
  unfold State.resumeRequest
  split
  · rename_i ph _ _
    dsimp only
    exact (State.announceEnables_arbitrates _ _).inRoster
      (h.transition .resume fun k => by cases ph <;> simp [Phase.state] at k)
  · exact h
theorem State.InRoster.finaliseRequest : s.finaliseRequest.1.InRoster := by
  unfold State.finaliseRequest
  split
  · dsimp only
    exact h.transition .finalise (by simp)
  · exact h
end

/-- A robot record after reset, and a port that hears no more of its robots, meet the law (R43, R51). -/
theorem RobotRecord.reset_inRoster (bridge : Port → Bool) (m : MatchState) : RobotRecord.reset.InRoster bridge m :=
  ⟨by decide, rfl, fun _ => ⟨rfl, rfl⟩⟩
theorem PortRecord.quiet_inRoster (bridge : Bool) (m : MatchState) (x : PortRecord) :
    { x with silence := 0, link := .live, silenceDue := false }.InRoster bridge m :=
  ⟨Nat.zero_le _, fun _ => ⟨rfl, rfl⟩, fun _ => rfl⟩
/-- NEW MATCH clears every robot record and quiets every port (R21, R43). -/
theorem State.InRoster.newMatchRequest {s : State} (h : s.InRoster) : s.newMatchRequest.1.InRoster := by
  unfold State.newMatchRequest
  split
  · dsimp only
    generalize hu : s.transition .newMatch ⟨.setup, 0, none, false, 0⟩ = u
    have strap : ∀ q, (u.newMatchEvent.port q).strap = (s.port q).strap := fun q => by
      rw [State.newMatchEvent_port, ← hu]
      exact (State.transition_settles _ _ s).strap q
    refine h.change strap (by rw [← hu]; exact h.limit) (fun r _ => ?_) fun q _ => ?_
    · rw [State.newMatchEvent_robot]
      exact RobotRecord.reset_inRoster _ _
    · rw [State.newMatchEvent_port]
      exact PortRecord.quiet_inRoster _ _ _
  · exact h

section
variable {s : State} (h : s.InRoster)
include h

theorem State.InRoster.timingRequest (a : TimingArgs) : (s.timingRequest a).1.InRoster := by
  unfold State.timingRequest
  split
  · obtain ⟨-, -, -, -, -, -, -, -, -, hlimit⟩ := timingOf_ok a
    exact ⟨h.robots, hlimit, h.ports⟩
  · exact h
theorem State.InRoster.voidSnapshots (e : Elem) : (s.voidSnapshots e).InRoster :=
  h.change (State.voidSnapshots_settles e s).strap h.limit (fun _ k => k)
    fun q k => by rw [State.voidSnapshots_port]; exact k
theorem State.InRoster.elementRequest (e : Byte) (a : HeaderArgs) : (s.elementRequest e a).1.InRoster := by
  unfold State.elementRequest
  dsimp only
  repeat' split
  all_goals first
    | exact h
    | exact (h.modifyElement _ _).voidSnapshots _
theorem State.InRoster.bindRequest (rb qb ab : Byte) : (s.bindRequest rb qb ab).1.InRoster := by
  unfold State.bindRequest
  split
  · exact h
  · split
    · rename_i r q a _ _ _
      split
      · rename_i hb
        obtain ⟨⟨hstrikes, hout, hbench, hbenched, -⟩, -, hearly⟩ := h.robots r
        dsimp only
        exact h.setRobot ⟨⟨hstrikes, hout, hbench, hbenched, by simp⟩, hb, hearly⟩
      · exact h
    · exact h
theorem State.InRoster.unbindRequest (rb : Byte) : (s.unbindRequest rb).1.InRoster := by
  unfold State.unbindRequest
  split
  · exact h
  · split
    · rename_i r _
      split
      · obtain ⟨⟨hstrikes, hout, hbench, hbenched, -⟩, -, hearly⟩ := h.robots r
        dsimp only
        exact h.setRobot ⟨⟨hstrikes, hout, hbench, hbenched, by simp⟩, rfl, hearly⟩
      · exact h
    · exact h

end

/-- A penalty keeps the law of the robot record it strikes (R46, R47, Table 3-2). -/
theorem RobotRecord.InRoster.penalised {bridge : Port → Bool} {m : MatchState} {x y : RobotRecord}
    (k : x.InRoster bridge m) (hm : m.scoring = true) {bench applied : Nat} (hb : bench ≤ 120) {re : Reason}
    (hy : x.penalised m bench = some (y, re, applied)) : y.InRoster bridge m := by
  obtain ⟨⟨hstrikes, hout, hbench, hbenched, hbound⟩, hport, -⟩ := k
  have hearly : ∀ y : RobotRecord, m = .setup ∨ m = .armed → y.standing = .clear ∧ y.strikes = 0 := by
    rintro y (rfl | rfl) <;> simp [MatchState.scoring] at hm
  unfold RobotRecord.penalised at hy
  split at hy
  · cases hy
  · rename_i hnot
    split at hy
    · cases hy
      exact ⟨⟨by simp, by simp, by simp, by simp, hbound⟩, hport, hearly _⟩
    · rename_i hfew
      have struck : x.strikes + 1 ≠ 3 := by omega
      dsimp only at hy
      split at hy
      · split at hy
        · cases hy
          exact ⟨⟨by dsimp only; omega, by simp [struck], by dsimp only; omega, by simp, hbound⟩, hport, hearly _⟩
        · rename_i hx
          cases hy
          exact ⟨⟨by dsimp only; omega, by simp [struck, hx], by dsimp only; omega, fun _ => hx, hbound⟩, hport, hearly _⟩
        · exact absurd ‹_› hnot
      · cases hy
        exact ⟨⟨by dsimp only; omega, by simp [struck, hnot], hbench, hbenched, hbound⟩, hport, hearly _⟩

section
variable {s : State} (h : s.InRoster)
include h

theorem State.InRoster.penaltyRequest (rb points bench : Byte) : (s.penaltyRequest rb points bench).1.InRoster := by
  unfold State.penaltyRequest
  split
  · exact h
  · rename_i hm
    split
    · rename_i r _
      split
      · exact h
      · have scored : s.Plays (s.penaltyPoints r points.toNat) := by
          unfold State.penaltyPoints
          split
          exacts [State.addScore_plays _ _ s, .refl s]
        have hv := scored.inRoster h
        dsimp only
        split
        · exact hv
        · rename_i hx
          refine ((State.raiseRobot_arbitrates _ _ _).trans (State.tellStanding_arbitrates _ _ _)).inRoster
            (hv.setRobot ((hv.robots r).penalised ?_ (Nat.min_le_left _ _) hx))
          rw [scored.clock]
          simpa using hm
    · exact h

/-- The requests of the plan, the stage and the match keep the laws. -/
theorem State.InRoster.writingRequest {c : Instr} {p : Port} {code : Byte} {body : State → State × Answer}
    (hq : requestOf c = some (p, code, body)) (hw : writesPlanOrClock c = true) : (body s).1.InRoster := by
  cases c <;> cases hw <;> cases hq
  case setTiming => exact h.timingRequest _
  case setElement => exact h.elementRequest _ _
  case arm => exact h.armRequest
  case disarm => exact h.disarmRequest
  case start => exact h.startRequest
  case halt => exact h.haltRequest
  case resume => exact h.resumeRequest
  case abort => exact h.abortRequest
  case finalise => exact h.finaliseRequest
  case newMatch => exact h.newMatchRequest
  case stageOpen => rw [s.stageOpenRequest_eq]; exact h.setStage _
  case stagePut => rw [s.stagePutRequest_eq]; exact h.setStage _
  case stageSeal => rw [s.stageSealRequest_eq]; exact h.setStage _
  case stageDiscard => rw [s.stageDiscardRequest_eq]; exact h.setStage _
/-- The write of a port that keeps role, silence timer and link. -/
theorem State.InRoster.rewritePort {p : Port} {f : PortRecord → PortRecord} (strap : (f (s.port p)).strap = (s.port p).strap)
    (silence : (f (s.port p)).silence = (s.port p).silence) (link : (f (s.port p)).link = (s.port p).link)
    (due : (f (s.port p)).silenceDue = (s.port p).silenceDue) : (s.modifyPort p f).InRoster := by
  obtain ⟨hle, hlink, hzero⟩ := h.ports p
  exact h.modifyPort strap ⟨by rw [silence]; exact hle, by rw [link, due]; exact hlink, by rw [silence]; exact hzero⟩
/-- Every other request keeps the laws. -/
theorem State.InRoster.otherRequest {c : Instr} {p : Port} {code : Byte} {body : State → State × Answer}
    (hq : requestOf c = some (p, code, body)) (hw : writesPlanOrClock c = false) : (body s).1.InRoster := by
  cases c <;> cases hq <;> cases hw
  case ping | readClock | readScores | readRobot | readElement => exact h
  case readNotice =>
    unfold State.takeNotices
    split
    · dsimp only; exact h.rewritePort rfl rfl rfl rfl
    · exact h
  case subscribe => dsimp only [State.storeMask]; exact h.rewritePort rfl rfl rfl rfl
  case snapshot =>
    unfold State.latchSnapshot
    split
    · exact h
    · split
      · exact h
      · dsimp only; exact h.rewritePort rfl rfl rfl rfl
  case readSnapshot => dsimp only [State.takeSnapshot]; exact h.rewritePort rfl rfl rfl rfl
  case claim => exact (State.claimRequest_arbitrates _ _ _ s).inRoster h
  case release => exact (State.releaseRequest_arbitrates _ _ _ s).inRoster h
  case withdraw => exact (State.withdrawRequest_arbitrates _ _ s).inRoster h
  case move => exact (State.moveRequest_arbitrates _ _ _ _ s).inRoster h
  case dispense => exact (State.dispenseRequest_arbitrates _ _ _ s).inRoster h
  case setProfile =>
    unfold State.profileRequest
    repeat' split
    all_goals first
      | exact h
      | (dsimp only; exact h.modifyElement _ _)
  case bind => exact h.bindRequest _ _ _
  case unbind => exact h.unbindRequest _
  case lineTest => exact (State.testRequest_arbitrates _ _ _ s).inRoster h
  case penalty => exact h.penaltyRequest _ _ _
  case adjust =>
    unfold State.adjustRequest
    repeat' split
    all_goals first
      | exact h
      | exact (State.addScore_plays _ _ s).inRoster h
  case free => exact (State.freeRequest_arbitrates _ s).inRoster h
  case rearm => exact (State.rearmRequest_arbitrates _ s).inRoster h
  case tune => exact (State.tuneRequest_arbitrates _ _ s).inRoster h
theorem State.InRoster.request {c : Instr} {p : Port} {code : Byte} {body : State → State × Answer}
    (hq : requestOf c = some (p, code, body)) : (body s).1.InRoster := by
  cases hw : writesPlanOrClock c with
  | true => exact h.writingRequest hq hw
  | false => exact h.otherRequest hq hw
theorem State.InRoster.setFrame (p : Port) (f : Frame) : (s.setFrame p f).InRoster := h.rewritePort rfl rfl rfl rfl
theorem State.InRoster.answered (p : Port) (bytes : List Byte) : (s.answered p bytes).InRoster :=
  h.rewritePort rfl rfl rfl rfl
end

/-- The state after reset meets the laws (R43, R51). -/
theorem State.afterReset_inRoster (straps : BitVec 5) (sense : BitVec 48) (fs : BitVec 4) (n : Nat) (q : List Instr)
    (cs : List (Port × Bool)) : (State.afterReset straps sense fs n q cs).InRoster := by
  refine ⟨fun r => ?_, (by decide : Timing.reset.silence ≤ 2000), fun p => ?_⟩
  · rw [State.afterReset_robot]
    exact RobotRecord.reset_inRoster _ _
  · rw [State.afterReset_port]
    exact PortRecord.quiet_inRoster _ _ (.reset (strapRole straps p))

/-- Every command keeps the laws. -/
theorem State.InRoster.exec {c : Instr} {s t : State} (h : s.InRoster) (he : exec c s = .next t) : t.InRoster := by
  rcases exec_cases he with k | ⟨straps, sense, fs, -, k⟩ | ⟨sense, fs, -, k⟩ | ⟨due, act, hc, hd, k⟩ |
    ⟨p, code, body, bytes, hc, k⟩ | ⟨p, bytes, k⟩ | ⟨p, f, k⟩ | k <;> rw [k]
  · exact h
  · exact State.afterReset_inRoster _ _ _ _ _ _
  · exact h.settled.count sense fs
  · exact h.event hc hd
  · exact ((h.examined p).request hc).answered p bytes
  · exact (h.examined p).answered p bytes
  · exact h.setFrame p f
  · refine h.change (fun q => ?_) h.limit (fun _ k => k) fun q k => ?_
    all_goals rw [State.port, rewriteAll_get]
    · rfl
    · exact k

/-- Settles O57: every command keeps the laws of the roster record by record, and so does a step. -/
theorem stepKeepsRoster : Obligations.StepKeepsRoster := fun _ _ h hs =>
  State.rosterOk_iff.mpr (step_keeps (P := State.InRoster) (fun _ _ h => ⟨h.robots, h.limit, h.ports⟩)
    (fun _ _ h => ⟨h.robots, h.limit, h.ports⟩) (fun p f _ h => h.setFrame p f) (fun _ _ _ h he => h.exec he)
    (State.rosterOk_iff.mp h) hs)

end Sys2Proof.Machine

namespace Sys2Proof.Machine

/-! # ROBOT notices (R50, R52, R54, R57) -/

/-- The ROBOT notice of a robot: its value is the enabled flag (R57). -/
def State.robotNotice (s : State) (re : Reason) (r : Robot) : Notice :=
  s.notice .robot (some re) (some r) none (some (flagValue (s.enabled r)))

theorem State.raiseRobot_onlyHands (re : Reason) (r : Robot) (s : State) :
    s.OnlyHands [s.robotNotice re r] (s.raiseRobot re r) := State.raise_onlyHands _ _ _ _ _ s
theorem State.OnlyHands.robotNotice {ns : List Notice} {s t : State} (h : s.OnlyHands ns t) (re : Reason) (r : Robot) :
    t.robotNotice re r = s.robotNotice re r := by
  rw [State.robotNotice, State.notice, h.enabled, h.clock]
  rfl
/-- ROBOT notices of one robot after another. -/
theorem State.raiseRobots_onlyHands (re : Reason) (rs : List Robot) (s : State) :
    s.OnlyHands (rs.map (s.robotNotice re)) (s.forEach rs (State.raiseRobot re)) := by
  rw [← List.flatMap_singleton' (rs.map _), List.flatMap_map]
  refine State.forEach_onlyHands _ (fun r t ⟨_, ht⟩ => ?_) rs
  rw [← ht.robotNotice]
  exact State.raiseRobot_onlyHands re r t
theorem State.mem_boundTo {s : State} {p : Port} {r : Robot} : r ∈ s.boundTo p ↔ (s.robot r).bound = some p := by
  simp [State.boundTo, mem_allRobots]

/-- Settles O7: the records handed are those of the robots bound to the port, which its queue alone takes. -/
theorem completeFrameReloadsSilence : Obligations.CompleteFrameReloadsSilence := by
  intro p s t
  refine ⟨fun hr => State.frameComplete_of_not_bridge ?_, fun hr => ?_⟩
  · rwa [← Bool.not_eq_true, State.isBridge_iff]
  intro value record
  generalize hu : (s.modifyPort p fun x => { x with link := .live, silence := s.timing.silence, silenceDue := false }) = u
  have hport : u.port p = { s.port p with link := .live, silence := s.timing.silence, silenceDue := false } := by
    rw [← hu, State.port_modifyPort_self]
  have hother : ∀ q, q ≠ p → u.port q = s.port q := fun q hq => by rw [← hu, State.port_modifyPort_ne _ _ _ _ hq]
  have hrest : u = { s with ports := u.ports } := by rw [← hu]; rfl
  have hrobot : ∀ r, u.robot r = s.robot r := fun r => by rw [hrest]; rfl
  have ht : t = if (s.port p).link = .stale then u.forEach (u.boundTo p) (State.raiseRobot .live) else u := by
    simp only [t, State.frameComplete, State.isBridge_iff.mpr hr, if_true, hu]
  by_cases hs : (s.port p).link = .stale
  · rw [if_pos hs] at ht ⊢
    have hands := State.raiseRobots_onlyHands .live (u.boundTo p) u
    rw [← ht] at hands
    have notes : (u.boundTo p).map (u.robotNotice .live) =
        (allRobots.filter fun r => (s.robot r).bound = some p).map record := by
      have hb : u.boundTo p = allRobots.filter fun r => (s.robot r).bound = some p := by simp only [State.boundTo, hrobot]
      rw [hb]
      refine List.map_congr_left fun r h => ?_
      have hr : (s.robot r).bound = some p := by simpa using (List.mem_filter.mp h).2
      have link : u.robotLink r = some .live := by rw [State.robotLink, hrobot, hr, Option.map_some, hport]
      have clock : u.clock = s.clock := by rw [hrest]
      simp only [State.robotNotice, State.notice, State.enabled, hrobot, link, clock, flagValue, record, value]
      simp
    have due : ∀ n ∈ (u.boundTo p).map (u.robotNotice .live), ∀ q, u.routes n q = decide (q = p) := by
      intro n hn q
      obtain ⟨r, hr, rfl⟩ := List.mem_map.mp hn
      simp [State.routes, State.robotNotice, State.notice, State.mem_boundTo.mp hr, eq_comm]
    refine ⟨?_, fun q hq => ?_, ?_⟩
    · rw [hands.handed.port hands.ports, List.filter_eq_self.mpr fun n hn => by rw [due n hn]; simp, notes, hport]
    · rw [hands.handed.port hands.ports, List.filter_eq_nil_iff.mpr fun n hn => by rw [due n hn]; simp [hq]]
      exact hother q hq
    · rw [hands.rest, hrest]
  · rw [if_neg hs] at ht ⊢
    rw [ht]
    exact ⟨hport, hother, hrest⟩

/-- The standing of a robot whose bench has run out (R50). -/
def RobotRecord.cleared (x : RobotRecord) : RobotRecord := { x with standing := .clear }
theorem State.benchExpiry_eq (r : Robot) (s : State) :
    s.benchExpiry r = (s.modifyRobot r RobotRecord.cleared).raiseRobot .cleared r := rfl
theorem State.benchExpiry_robot (r r' : Robot) (s : State) : (s.benchExpiry r).robot r' =
    if r' = r then (s.robot r').cleared else s.robot r' := State.robot_modifyRobot r r' RobotRecord.cleared s
/-- A bench expiry hands the ROBOT notice by the bindings that it finds. -/
theorem State.benchExpiry_handed (r : Robot) (s : State) :
    s.Handed ((s.modifyRobot r RobotRecord.cleared).robotNotice .cleared r) (s.benchExpiry r) := fun q => by
  have h := State.raise_handed .robot (some .cleared) (some r) none
    (some (flagValue ((s.modifyRobot r RobotRecord.cleared).enabled r))) (s.modifyRobot r RobotRecord.cleared) q
  rw [State.routes_congr (t := s.modifyRobot r RobotRecord.cleared) (s := s)
    (fun r' => by rw [State.robot_modifyRobot]; split <;> rfl) (fun _ => rfl)] at h
  exact h
/-- The enabled flag of a robot that becomes CLEAR (R56). -/
theorem State.cleared_enabled_iff (r : Robot) (s : State) : (s.modifyRobot r RobotRecord.cleared).enabled r = true ↔
    (∃ p, (s.robot r).bound = some p ∧ (s.port p).link = .live) ∧ s.clock.state.isLive = true := by
  simp [State.enabled, State.robotLink, RobotRecord.cleared]

/-- Settles O15: the standing is written, and the notice reads the enabled flag after it. -/
theorem benchExpiryClearsStanding : Obligations.BenchExpiryClearsStanding := by
  intro r s hs hb hz enabled
  have flag : (s.modifyRobot r RobotRecord.cleared).enabled r = true ↔ enabled := State.cleared_enabled_iff r s
  have handed := State.benchExpiry_handed r s
  rw [State.robotNotice] at handed
  refine ⟨s.benchExpiry r, exec_event_due (c := .benchExpiry r) rfl hs (by simp [State.benchDue, hb, hz]), rfl,
    (State.benchExpiry_robot r r s).trans (if_pos rfl), fun r' h => (State.benchExpiry_robot r r' s).trans (if_neg h),
    State.hand_samePorts _ (s.modifyRobot r RobotRecord.cleared), fun he => ?_, fun he => ?_⟩
  · rw [flag.mpr he] at handed
    exact handed
  · rw [Bool.eq_false_iff.mpr fun k => he (flag.mp k)] at handed
    exact handed

/-! # READ ROBOT and READ ELEMENT (R59, R114) -/

/-- The answer of READ ROBOT for a robot in range (R59). -/
theorem State.robotAnswer_eq (s : State) {n : Byte} {r : Robot} (h : n.toNat = r.val) : s.robotAnswer n =
    accept ([((s.robot r).bound.map indexByte).getD 0, orAbsent indexByte (s.robot r).alliance,
      byte (s.robot r).standing.code, byte (s.robot r).strikes] ++ bytes2 ((s.robot r).bench / 100) ++
      [orAbsent (fun l => byte l.code) (s.robotLink r), flagByte (s.enabled r), orAbsent indexByte (s.robot r).held,
        orAbsent (fun w => indexByte w.1) (s.robot r).waiting,
        ((s.robot r).waiting.map fun w => byte w.2).getD 0]) := by
  rw [State.robotAnswer, robotOf_some h]
  cases hb : (s.robot r).bound <;> cases hw : (s.robot r).waiting <;> simp only [hb, hw] <;> rfl
theorem State.dispenserFields_length (s : State) (e : Elem) : (s.dispenserFields e).length = 3 := by
  unfold State.dispenserFields
  dsimp only
  split <;> rfl

/-- Settles O31: the codes by evaluation, the answers by the one body that each request has. -/
theorem robotAndElementAreRead : Obligations.RobotAndElementAreRead := by
  refine ⟨by decide, by decide, by decide, by decide, fun _ => rfl, by decide, by decide, by decide, by decide, rfl,
    fun _ => rfl, fun m => by cases m <;> rfl, fun p n s hh => ?_⟩
  intro u
  refine ⟨fun hn => ?_, fun hn => ?_, fun r hr => ?_, fun e he => ?_⟩
  · have body : u.robotAnswer n = refuse .badArg := by rw [State.robotAnswer, robotOf_none hn]
    rw [exec_open (c := .readRobot p n) rfl rfl hh rfl, body]
    rfl
  · have body : u.elementAnswer n = refuse .badArg := by rw [State.elementAnswer, elementOf_none hn]
    rw [exec_open (c := .readElement p n) rfl rfl hh rfl, body]
    rfl
  · rw [exec_open (c := .readRobot p n) rfl rfl hh rfl, u.robotAnswer_eq hr, padded_full (Nat.le_refl 11)]
    rfl
  · rw [exec_open (c := .readElement p n) rfl rfl hh rfl, State.elementAnswer, elementOf_some he]
    dsimp only
    rw [padded_full (by simp [accept, bytes2, State.dispenserFields_length])]
    rfl

end Sys2Proof.Machine

namespace Sys2Proof.Machine

/-! # PENALTY and ADJUST (R46 to R48, R151, R152) -/

theorem MatchState.scoring_iff {m : MatchState} : m.scoring = true ↔
    m = .auto ∨ m = .brk ∨ m = .drive ∨ m = .endgame ∨ m = .halted ∨ m = .finished := by
  cases m <;> simp [MatchState.scoring]
theorem clampInt_eq {lo hi v : Int} (h : lo ≤ hi) :
    clampInt lo hi v = if v < lo then lo else if hi < v then hi else v := by
  unfold clampInt
  split
  · omega
  · split <;> omega

/-! ## The rows of Table 3-2 -/

section
variable {m : MatchState} {b : Nat} {x : RobotRecord}

theorem RobotRecord.penalised_out (h : x.standing = .out) : x.penalised m b = none := if_pos h
theorem RobotRecord.penalised_third (h : x.standing ≠ .out) (hs : 2 ≤ x.strikes) :
    x.penalised m b = some ({ x with strikes := 3, standing := .out, bench := 0 }, .out, 0) := by
  rw [RobotRecord.penalised, if_neg h, if_pos hs]
theorem RobotRecord.penalised_benched (h : x.standing = .clear) (hs : x.strikes ≤ 1) (hb : 0 < b ∧ m ≠ .finished) :
    x.penalised m b = some ({ x with strikes := x.strikes + 1, standing := .benched, bench := max x.bench (b * 1000) },
      .benched, b) := by
  rw [RobotRecord.penalised, if_neg (by simp [h]), if_neg (by omega), if_pos (by simpa using hb)]
  simp only [h]
theorem RobotRecord.penalised_longer (h : x.standing = .benched) (hs : x.strikes ≤ 1) (hb : 0 < b ∧ m ≠ .finished) :
    x.penalised m b = some ({ x with strikes := x.strikes + 1, bench := max x.bench (b * 1000) }, .strike,
      if x.bench < b * 1000 then b else 0) := by
  rw [RobotRecord.penalised, if_neg (by simp [h]), if_neg (by omega), if_pos (by simpa using hb)]
  simp only [h]
theorem RobotRecord.penalised_struck (h : x.standing ≠ .out) (hs : x.strikes ≤ 1) (hb : ¬ (0 < b ∧ m ≠ .finished)) :
    x.penalised m b = some ({ x with strikes := x.strikes + 1 }, .strike, 0) := by
  rw [RobotRecord.penalised, if_neg h, if_neg (by omega), if_neg (by simpa using hb)]
end

/-! ## The bodies -/

section
variable {s : State} {rb points bench : Byte}

theorem State.penaltyRequest_closed (h : ¬ s.clock.state.scoring = true) :
    s.penaltyRequest rb points bench = (s, refuse .phase) := if_pos (by simpa using h)
theorem State.penaltyRequest_badArg (h : s.clock.state.scoring = true) (hr : robotOf rb = none) :
    s.penaltyRequest rb points bench = (s, refuse .badArg) := by
  rw [State.penaltyRequest, if_neg (by simp [h]), hr]

variable {r : Robot} (h : s.clock.state.scoring = true) (hr : robotOf rb = some r)
include h hr

theorem State.penaltyRequest_unbound (hb : (s.robot r).bound = none) :
    s.penaltyRequest rb points bench = (s, refuse .badArg) := by
  rw [State.penaltyRequest, if_neg (by simp [h]), hr]
  exact if_pos (by simp [State.isBound, hb])

variable (hb : (s.robot r).bound ≠ none) {a : Alliance} (ha : (s.robot r).alliance = some a)
include hb ha

/-- The body of a PENALTY that passes its checks: the points go to the tally, and the record is updated. -/
theorem State.penaltyRequest_eq : s.penaltyRequest rb points bench =
    match (s.robot r).penalised s.clock.state (min 120 bench.toNat) with
    | none => (s.addScore a (-(points.toNat : Int)),
        accept [byte (s.robot r).strikes, byte (s.robot r).standing.code, 0])
    | some (x, reason, applied) =>
      ((((s.addScore a (-(points.toNat : Int))).setRobot r x).raiseRobot reason r).tellStanding r reason,
        accept [byte x.strikes, byte x.standing.code, byte applied]) := by
  have bound : (!s.isBound r) = false := by simpa [State.isBound] using Option.isSome_iff_ne_none.mpr hb
  have scored : s.penaltyPoints r points.toNat = s.addScore a (-(points.toNat : Int)) := by
    rw [State.penaltyPoints, ha]
  have hrobot : (s.addScore a (-(points.toNat : Int))).robot r = s.robot r := by rw [State.addScore_eq]; rfl
  have hclock : (s.addScore a (-(points.toNat : Int))).clock = s.clock := by rw [State.addScore_eq]
  simp only [State.penaltyRequest, h, Bool.not_true, Bool.false_eq_true, if_false, hr, bound, scored, hrobot, hclock]
  rfl
end

section
variable {s : State} {ab : Byte} {amount : Half}

theorem State.adjustRequest_closed (h : ¬ s.clock.state.scoring = true) :
    s.adjustRequest ab amount = (s, refuse .phase) := if_pos (by simpa using h)
theorem State.adjustRequest_badArg (h : s.clock.state.scoring = true) (ha : allianceOf ab = none) :
    s.adjustRequest ab amount = (s, refuse .badArg) := by
  rw [State.adjustRequest, if_neg (by simp [h]), ha]
theorem State.adjustRequest_adds (h : s.clock.state.scoring = true) {a : Alliance} (ha : allianceOf ab = some a) :
    s.adjustRequest ab amount = (s.addScore a (clampInt (-1000) 1000 amount.toInt),
      accept (signed2 (clampInt (-1000) 1000 amount.toInt) ++
        signed4 ((s.addScore a (clampInt (-1000) 1000 amount.toInt)).accumulators.get a))) := by
  rw [State.adjustRequest, if_neg (by simp [h]), ha]
end

/-- Settles O49, by the bodies of the two requests and the rows of Table 3-2. -/
theorem penaltyAndAdjust : Obligations.PenaltyAndAdjust := by
  intro s hh
  generalize hu : s.examined 0 = v
  intro u m scoring
  have hscoring : v.clock.state.scoring = true ↔ scoring := MatchState.scoring_iff
  refine ⟨fun rb points bench => ?_, fun ab amount => ?_⟩
  · intro run
    have ran : ∀ {t : State} {a : Answer}, v.penaltyRequest rb points bench = (t, a) →
        run = .next (t.answered 0 (a.status.code :: padded 3 a.bytes)) := fun hb =>
      exec_referee (c := .penalty 0 rb points bench) rfl rfl hh hu hb
    refine ⟨fun hs => ran (State.penaltyRequest_closed fun k => hs (hscoring.mp k)), fun hs hr =>
      ran (State.penaltyRequest_badArg (hscoring.mpr hs) (robotOf_none hr)), fun r hs hr => ⟨fun hb =>
      ran (State.penaltyRequest_unbound (hscoring.mpr hs) (robotOf_some hr) hb), fun a hb ha => ?_⟩⟩
    intro x w b benches longer struck gone benched told
    have body := State.penaltyRequest_eq (points := points) (bench := bench) (hscoring.mpr hs) (robotOf_some hr) hb ha
    have hbench : min 120 bench.toNat = b := by
      simp only [b]
      split <;> omega
    have hlonger : max x.bench (b * 1000) = longer := by
      simp only [longer]
      split <;> omega
    rw [hbench] at body
    refine ⟨fun hx => ?_, fun hx h2 => ?_, fun hx h1 hbs => ?_, fun hx h1 hbs => ?_, fun hx h1 hbs => ?_⟩
    · have code : byte x.standing.code = 0x02 := by rw [hx]; rfl
      rw [RobotRecord.penalised_out hx] at body
      rw [ran body, ← code]
      rfl
    · rw [RobotRecord.penalised_third hx h2] at body
      exact ran body
    · rw [RobotRecord.penalised_benched hx h1 hbs, hlonger] at body
      exact ran body
    · have code : byte x.standing.code = 0x01 := by rw [hx]; rfl
      rw [RobotRecord.penalised_longer hx h1 hbs, hlonger] at body
      rw [ran body, ← code]
      rfl
    · rw [RobotRecord.penalised_struck hx h1 hbs] at body
      exact ran body
  · intro run d
    have ran : ∀ {t : State} {a : Answer}, v.adjustRequest ab amount = (t, a) →
        run = .next (t.answered 0 (a.status.code :: padded 6 a.bytes)) := fun hb =>
      exec_referee (c := .adjust 0 ab amount) rfl rfl hh hu hb
    refine ⟨fun hs => ran (State.adjustRequest_closed fun k => hs (hscoring.mp k)), fun hs ha =>
      ran (State.adjustRequest_badArg (hscoring.mpr hs) (allianceOf_none ha)), fun a hs ha => ?_⟩
    have hd : clampInt (-1000) 1000 amount.toInt = d := clampInt_eq (by decide)
    rw [ran (State.adjustRequest_adds (hscoring.mpr hs) (allianceOf_some ha)), hd]
    rfl

end Sys2Proof.Machine

namespace Sys2Proof.Machine

/-! # Seats in the claim table (R61, R63) -/

/-- A robot holds the element or waits on it. -/
def State.Seats (s : State) (r : Robot) (e : Elem) : Prop := (s.claim e).state = .held r ∨ r ∈ (s.claim e).waiters
/-- The places that one element gives to a robot. -/
def State.placesAt (s : State) (r : Robot) (e : Elem) : Nat :=
  (if (s.claim e).state = .held r then 1 else 0) + (s.claim e).waiters.count r

theorem State.placesAt_pos {s : State} {r : Robot} {e : Elem} : 0 < s.placesAt r e ↔ s.Seats r e := by
  unfold State.placesAt State.Seats
  by_cases h : (s.claim e).state = .held r <;> simp [h, List.count_pos_iff]
theorem State.places_eq_sum (s : State) (r : Robot) : s.places r = ∑ e, s.placesAt r e := (Fin.sum_univ_def _).symm
theorem State.places_eq_zero {s : State} {r : Robot} : s.places r = 0 ↔ ∀ e, ¬ s.Seats r e := by
  rw [State.places_eq_sum, Finset.sum_eq_zero_iff]
  simp [← State.placesAt_pos]
theorem State.placesAt_le (s : State) (r : Robot) (e : Elem) : s.placesAt r e ≤ s.places r := by
  rw [State.places_eq_sum]
  exact Finset.single_le_sum (fun _ _ => Nat.zero_le _) (Finset.mem_univ e)
theorem State.Seats.unique {s : State} {r : Robot} (hp : s.places r ≤ 1) {e e' : Elem} (h : s.Seats r e)
    (h' : s.Seats r e') : e = e' := by
  by_contra hne
  have two : s.placesAt r e + s.placesAt r e' ≤ s.places r := by
    rw [State.places_eq_sum, ← Finset.sum_pair hne]
    exact Finset.sum_le_sum_of_subset (Finset.subset_univ _)
  have := State.placesAt_pos.mpr h
  have := State.placesAt_pos.mpr h'
  omega

/-- Every robot has one seat at most. -/
structure State.OneSeat (s : State) : Prop where
  unique : ∀ {r e e'}, s.Seats r e → s.Seats r e' → e = e'
  apart : ∀ {r e}, (s.claim e).state = .held r → r ∉ (s.claim e).waiters
  nodup : ∀ e, (s.claim e).waiters.Nodup

theorem State.oneSeat {s : State} (h : ∀ r, s.places r ≤ 1) : s.OneSeat where
  unique := fun k k' => k.unique (h _) k'
  apart := fun {r e} hh hw => by
    have := (s.placesAt_le r e).trans (h r)
    have := List.count_pos_iff.mpr hw
    rw [State.placesAt, if_pos hh] at *
    omega
  nodup := fun e => List.nodup_iff_count_le_one.mpr fun r =>
    (Nat.le_add_left _ _).trans ((s.placesAt_le r e).trans (h r))

/-- A table from which robots have only been taken. -/
theorem State.OneSeat.of_sublist {s t : State} (h : s.OneSeat)
    (hs : ∀ {e r}, (t.claim e).state = .held r → (s.claim e).state = .held r)
    (hw : ∀ e, (t.claim e).waiters.Sublist (s.claim e).waiters) : t.OneSeat where
  unique := fun k k' => h.unique (k.imp hs (hw _).mem) (k'.imp hs (hw _).mem)
  apart := fun hh hm => h.apart (hs hh) ((hw _).mem hm)
  nodup := fun e => (h.nodup e).sublist (hw e)

section
variable {s : State} (h : s.OneSeat)
include h

theorem State.OneSeat.not_waits {r : Robot} {e e' : Elem} (hh : (s.claim e).state = .held r) :
    r ∉ (s.claim e').waiters := fun hw => by
  obtain rfl := h.unique (.inl hh) (.inr hw)
  exact h.apart hh hw
theorem State.OneSeat.heldBy {r : Robot} {e : Elem} (hh : (s.claim e).state = .held r) : s.heldBy r = some e := by
  rw [State.heldBy]
  cases hf : allElems.find? fun e => decide ((s.claim e).state = .held r) with
  | none => exact absurd hh (by simpa using List.find?_eq_none.mp hf e (mem_allElems e))
  | some e' => exact congrArg some (h.unique (.inl (by simpa using List.find?_some hf)) (.inl hh))
theorem State.OneSeat.waitOf {r : Robot} {e : Elem} {k : Nat} (hk : positionIn r (s.claim e).waiters = some k) :
    s.waitOf r = some (e, k) := by
  have hm : r ∈ (s.claim e).waiters := (positionIn_isSome _ _).mp (by rw [hk]; rfl)
  rw [State.waitOf]
  cases hf : allElems.findSome? fun e => (positionIn r (s.claim e).waiters).map fun k => (e, k) with
  | none => exact absurd (List.findSome?_eq_none_iff.mp hf e (mem_allElems e)) (by simp [hk])
  | some w =>
    obtain ⟨e', -, he'⟩ := List.exists_of_findSome?_eq_some hf
    obtain ⟨k', hk', rfl⟩ := Option.map_eq_some_iff.mp he'
    obtain rfl := h.unique (.inr hm) (.inr ((positionIn_isSome _ _).mp (by rw [hk']; rfl)))
    rw [Option.some.inj (hk.symm.trans hk')]

end

theorem State.seats_of_heldBy {s : State} {r : Robot} {e : Elem} (h : s.heldBy r = some e) :
    (s.claim e).state = .held r := by simpa using List.find?_some h
theorem State.heldBy_eq_none {s : State} {r : Robot} : s.heldBy r = none ↔ ∀ e, (s.claim e).state ≠ .held r := by
  simp [State.heldBy, mem_allElems]
theorem State.waits_of_waitOf {s : State} {r : Robot} {e : Elem} {k : Nat} (h : s.waitOf r = some (e, k)) :
    r ∈ (s.claim e).waiters := by
  obtain ⟨e', -, he'⟩ := List.exists_of_findSome?_eq_some h
  obtain ⟨k', hk', he⟩ := Option.map_eq_some_iff.mp he'
  obtain ⟨rfl, -⟩ := Prod.mk.inj he
  exact (positionIn_isSome _ _).mp (by rw [hk']; rfl)
theorem State.waitOf_eq_none {s : State} {r : Robot} : s.waitOf r = none ↔ ∀ e, r ∉ (s.claim e).waiters := by
  simp [State.waitOf, List.findSome?_eq_none_iff, mem_allElems, ← positionIn_isSome, Option.isSome_iff_ne_none]
/-- Positions count from 1 (R61). -/
theorem positionIn_of_getElem? {r : Robot} {ws : List Robot} {k : Nat} (distinct : ws.Nodup) (h : ws[k]? = some r) :
    positionIn r ws = some (k + 1) := by
  induction ws generalizing k with
  | nil => simp at h
  | cons w ws ih =>
    obtain ⟨hw, hd⟩ := List.nodup_cons.mp distinct
    cases k with
    | zero =>
      obtain rfl : w = r := by simpa using h
      exact positionIn_cons_self _ _
    | succ k =>
      have hk : ws[k]? = some r := by simpa using h
      have hne : w ≠ r := fun he => hw (he ▸ List.mem_of_getElem? hk)
      rw [positionIn, if_neg hne, ih hd hk, Option.map_some]

/-! # The order by age (R72) -/

/-- The robots of a port that wait on an element, oldest first. -/
def State.matesOf (s : State) (p : Port) (e : Elem) : List Robot :=
  (s.claim e).waiters.filter fun r => (s.robot r).bound = some p
theorem State.mem_matesOf {s : State} {p : Port} {e : Elem} {r : Robot} :
    r ∈ s.matesOf p e ↔ r ∈ (s.claim e).waiters ∧ (s.robot r).bound = some p := by simp [State.matesOf]

/-- The robot that the order by age has in the place of a robot of a port. -/
def State.agedMate (s : State) (p : Port) (r : Robot) : Robot :=
  match s.waitOf r with
  | some (e, _) => (s.matesOf p e).getD (((s.boundTo p).filter (· ∈ s.matesOf p e)).idxOf r) r
  | none => r

theorem State.agedOrder_eq (p : Port) (s : State) : s.agedOrder p = (s.boundTo p).map (s.agedMate p) := by
  simp only [State.agedOrder, State.mem_boundTo]
  rfl
theorem State.agedOrder_length (p : Port) (s : State) : (s.agedOrder p).length = (s.boundTo p).length := by
  rw [State.agedOrder_eq, List.length_map]
theorem State.boundTo_nodup (s : State) (p : Port) : (s.boundTo p).Nodup := (List.nodup_finRange 16).filter _

theorem State.agedMate_cases {s : State} {p : Port} {r : Robot} (hr : r ∈ s.boundTo p) :
    s.agedMate p r = r ∧ s.waitOf r = none ∨ ∃ e, r ∈ s.matesOf p e ∧ s.agedMate p r ∈ s.matesOf p e := by
  unfold State.agedMate
  split
  · rename_i e k hw
    have hm := State.mem_matesOf.mpr ⟨State.waits_of_waitOf hw, State.mem_boundTo.mp hr⟩
    refine .inr ⟨e, hm, ?_⟩
    rw [List.getD_eq_getElem?_getD]
    cases hk : (s.matesOf p e)[((s.boundTo p).filter (· ∈ s.matesOf p e)).idxOf r]? with
    | none => exact hm
    | some w => exact List.mem_of_getElem? hk
  · rename_i hw
    exact .inl ⟨rfl, hw⟩

/-- In each place the order by age has the same robot as slot order, or one that waits on the same element. -/
theorem State.agedOrder_mate {s : State} {p : Port} {n : Nat} {r r' : Robot} (hn : (s.boundTo p)[n]? = some r)
    (hn' : (s.agedOrder p)[n]? = some r') : r' = r ∨ ∃ e, r ∈ s.matesOf p e ∧ r' ∈ s.matesOf p e := by
  rw [State.agedOrder_eq, List.getElem?_map, hn] at hn'
  obtain rfl := Option.some.inj hn'
  exact (State.agedMate_cases (List.mem_of_getElem? hn)).imp_left And.left

/-- A list without repetitions becomes another of its length when each entry takes the entry in its place. -/
theorem map_getD_idxOf {l m : List Robot} (distinct : l.Nodup) (hl : l.length = m.length) :
    (l.map fun r => m.getD (l.idxOf r) r) = m := by
  refine List.ext_getElem (by simpa using hl) fun i h h' => ?_
  simp [List.Nodup.idxOf_getElem distinct, h']

section
variable {s : State} (h : s.OneSeat)
include h

theorem State.OneSeat.agedMate_mem {p : Port} {r : Robot} (hr : r ∈ s.boundTo p) (e : Elem) :
    s.agedMate p r ∈ s.matesOf p e ↔ r ∈ s.matesOf p e := by
  rcases State.agedMate_cases hr with ⟨he, -⟩ | ⟨e', hm, hm'⟩
  · rw [he]
  · have only : ∀ {w}, w ∈ s.matesOf p e' → (w ∈ s.matesOf p e ↔ e = e') := fun hw =>
      ⟨fun k => h.unique (.inr (State.mem_matesOf.mp k).1) (.inr (State.mem_matesOf.mp hw).1), fun k => k ▸ hw⟩
    rw [only hm, only hm']
/-- In the order by age the robots that wait on one element stand as in its list. -/
theorem State.OneSeat.agedOrder_filter (p : Port) (e : Elem) :
    (s.agedOrder p).filter (fun r => r ∈ s.matesOf p e) = s.matesOf p e := by
  have distinct := (s.boundTo_nodup p).filter (· ∈ s.matesOf p e)
  have same : ((s.boundTo p).filter (· ∈ s.matesOf p e)).length = (s.matesOf p e).length := by
    refine List.Perm.length_eq ((List.perm_ext_iff_of_nodup distinct ((h.nodup e).filter _)).mpr fun r => ?_)
    simp [State.mem_boundTo, State.mem_matesOf]
  calc (s.agedOrder p).filter (fun r => r ∈ s.matesOf p e)
      = ((s.boundTo p).filter (· ∈ s.matesOf p e)).map (s.agedMate p) := by
        rw [State.agedOrder_eq, List.filter_map]
        exact congrArg (List.map _) (List.filter_congr fun r hr => by simp [h.agedMate_mem hr])
    _ = ((s.boundTo p).filter (· ∈ s.matesOf p e)).map fun r =>
          (s.matesOf p e).getD (((s.boundTo p).filter (· ∈ s.matesOf p e)).idxOf r) r := by
        refine List.map_congr_left fun r hr => ?_
        have hw := (State.mem_matesOf.mp (by simpa using (List.mem_filter.mp hr).2 : r ∈ s.matesOf p e)).1
        obtain ⟨k, hk⟩ := Option.isSome_iff_exists.mp ((positionIn_isSome _ _).mpr hw)
        rw [State.agedMate, h.waitOf hk]
    _ = s.matesOf p e := map_getD_idxOf distinct same
/-- The order by age takes the same robots. -/
theorem State.OneSeat.agedOrder_perm (p : Port) : (s.boundTo p).Perm (s.agedOrder p) := by
  refine (List.subperm_of_subset (s.boundTo_nodup p) fun r hr => ?_).perm_of_length_le (s.agedOrder_length p).le
  rcases State.agedMate_cases hr with ⟨he, -⟩ | ⟨e, hm, -⟩
  · rw [State.agedOrder_eq]
    exact List.mem_map.mpr ⟨r, hr, he⟩
  · rw [← h.agedOrder_filter p e] at hm
    exact List.mem_of_mem_filter hm
theorem State.OneSeat.silenceOrder_perm (p : Port) : (s.boundTo p).Perm (s.silenceOrder p) := by
  rcases s.silenceOrder_cases p with ho | ho <;> rw [ho]
  exact h.agedOrder_perm p

end

theorem State.silenceOrder_eq (p : Port) (s : State) : s.silenceOrder p =
    if Config.oldestFirst s.boundaries s.clock.remaining p.val = true then s.agedOrder p else s.boundTo p := by
  unfold State.silenceOrder
  split
  · rename_i he
    rw [he, ite_self]
  · rfl

end Sys2Proof.Machine

namespace Sys2Proof.Machine

/-! # A claim that the roster ends (R68, R73, R95, R96) -/

/-- A record raised with a claim record write is handed by the bindings before it, which the write keeps. -/
theorem State.setClaim_raise_handed (s : State) (e : Elem) (c : ClaimRecord) (k : NoticeKind) (re : Option Reason)
    (r : Option Robot) (v : Option Int) :
    s.Handed (s.notice k re r (some e) v) ((s.setClaim e c).raise k re r (some e) v) := fun q => by
  rw [← (State.setClaim_arbitrates e c s).plays.routes]
  exact State.raise_handed k re r (some e) v (s.setClaim e c) q

/-- The holder is removed and the element stands in RETURNING (R68). -/
def State.vacate (e : Elem) (r : Robot) (c : Cause) (s : State) : State :=
  (s.removeHolder e r c).setClaimState e .returning

theorem State.vacate_arbitrates (e : Elem) (r : Robot) (c : Cause) (s : State) : s.Arbitrates (s.vacate e r c) :=
  (State.removeHolder_arbitrates e r c s).trans (State.setClaimState_arbitrates e _ _)
theorem State.vacate_local (e : Elem) (r : Robot) (c : Cause) (s : State) : s.SameElementsBut e (s.vacate e r c) :=
  (State.removeHolder_local e r c s).trans (State.setClaimState_local e _ _)
theorem State.vacate_element (e : Elem) (r : Robot) (c : Cause) (s : State) : (s.vacate e r c).element e =
    Element.claimEnded
      { s.element e with claim := ⟨.returning, (s.robot r).alliance, (s.claim e).waiters⟩ } := by
  rw [State.vacate, State.setClaimState, State.setClaim_element, if_pos rfl, State.claim, State.removeHolder_element]
  unfold Element.claimEnded
  dsimp only
  split <;> rfl
theorem State.vacate_handed (e : Elem) (r : Robot) (c : Cause) (s : State) :
    s.Handed (s.notice .lost (some c.reason) (some r) (some e) none) (s.vacate e r c) :=
  s.setClaim_raise_handed e _ .lost (some c.reason) (some r) none
theorem State.vacate_mirrors (e : Elem) (r : Robot) (c : Cause) (s : State) (r' : Robot) :
    ((s.vacate e r c).robot r').held = (s.vacate e r c).heldBy r' ∧
      ((s.vacate e r c).robot r').waiting = (s.vacate e r c).waitOf r' := State.setClaim_mirrors _ _ _ _
theorem Element.claimEnded_eq (x : Element) : x.claimEnded = { x with
    shots := if x.header.kind = .dispenser then 0 else x.shots
    quotaMark := if x.header.kind = .dispenser then false else x.quotaMark
    pulse := if x.header.kind = .beacon then ⟨.idle, 0, 0, .first, false, false, none⟩ else x.pulse
    test := if x.header.kind = .beacon then none else x.test } := by
  unfold Element.claimEnded
  split <;> simp [*, Element.drivePulse, PulseUnit.stop, PulseUnit.stopped]

/-- A claim ends into RETURNING: a gate begins its return, any other kind takes its cooldown (R73, R131, R133). -/
theorem State.leaveHolder_eq (e : Elem) (r : Robot) (c : Cause) (s : State) : s.leaveHolder e r c =
    if (s.element e).header.kind = .gate then ((s.vacate e r c).setTimer e .stopped).beginReturn e
    else (s.vacate e r c).setTimer e (.cool (s.endsBeforeTick e c) (s.activeProfile e).cooldownMs) := by
  have header := ((State.vacate_arbitrates e r c s).plays.plans e).header
  rw [← header, ← (State.removeHolder_arbitrates e r c s).plays.activeProfile e]
  unfold State.leaveHolder State.enterReturning
  dsimp only
  split <;> simp_all [State.vacate]

theorem Element.SamePlan.bothLimits {x y : Element} (h : x.SamePlan y) : y.bothLimits = x.bothLimits := by
  simp only [Element.bothLimits, Element.senseActive, Element.sense, h.header, h.high0, h.high1]

/-- A gate's return goes on in RETURNING, or jams where both limits are active (R90, R95, R96). -/
theorem State.beginReturn_claim {s : State} {e : Elem} (hc : (s.claim e).state = .returning) :
    (s.beginReturn e).claim e = s.claim e ∨
    (s.element e).bothLimits = true ∧ ∃ last, (s.beginReturn e).claim e = ⟨.blocked .jam, last, []⟩ := by
  have keeps : ∀ f : Element → Element, (f (s.element e)).claim = (s.element e).claim →
      (s.modifyElement e f).claim e = s.claim e := fun f hf => by
    rw [State.claim, State.element_modifyElement_self, hf, State.claim]
  have starts : (s.startMotion e .back .ret).claim e = s.claim e ∨
      (s.element e).bothLimits = true ∧ ∃ last, (s.startMotion e .back .ret).claim e = ⟨.blocked .jam, last, []⟩ := by
    unfold State.startMotion
    dsimp only
    split
    · rename_i hb
      have hs : ((s.modifyElement e Element.halted).claim e).state = .returning := by rw [keeps _ rfl, hc]
      exact .inr ⟨hb, _, by rw [State.jam, State.takeBlock_unclaimed (by rw [hs]; rfl) (by rw [hs]; rfl),
        State.claim, State.enterBlocked_element]⟩
    · split
      · exact .inl (keeps _ rfl)
      · exact .inl (keeps _ rfl)
  unfold State.beginReturn
  split
  · exact .inl (keeps _ rfl)
  · exact starts
  · exact starts
  · exact starts
  · exact .inl (keeps _ rfl)
  · exact .inl (keeps _ rfl)
  · exact .inl (keeps _ rfl)

/-- The end of a return seats no robot that has not waited on the element (R75, R77). -/
theorem State.finishReturn_seats {s : State} {e e' : Elem} {r : Robot} (h : (s.finishReturn e).Seats r e') :
    s.Seats r e' := by
  by_cases hne : e' = e
  · subst hne
    revert h
    unfold State.finishReturn State.settleReturn State.Seats
    split
    · split
      · split
        · simp only [State.claim, State.setTimer, State.element_modifyElement_self, State.setClaimState,
            State.setClaim_element, if_true]
          exact fun h => .inr (h.resolve_left nofun)
        · rename_i w hw
          have hm := State.nextHolder_mem hw
          have hc : (s.grantWaiter e' w).claim e' =
              { s.claim e' with state := .held w, waiters := (s.claim e').waiters.filter (· ≠ w) } := by
            rw [State.claim, State.grantWaiter, State.tellGrant, State.element_modifyElement_self,
              Element.granted_claim]
            change ((s.makeHolder e' w).element e').claim = _
            rw [State.makeHolder_element]
          rw [hc]
          rintro (hh | hr)
          · exact .inr (ClaimState.held.inj hh ▸ hm)
          · exact .inr (List.mem_of_mem_filter hr)
      · simp [State.claim, State.setTimer, State.setClaimState, State.setClaim_element, State.dropAll,
          State.dropWaiters_element]
    · exact id
  · simpa only [State.Seats, State.claim, State.finishReturn_local e s e' hne] using h

end Sys2Proof.Machine

namespace Sys2Proof.Machine

/-! # The robots of a silent port taken one by one (R48, R53) -/

/-- The link of a port becomes STALE (R53). -/
def State.madeStale (s : State) (p : Port) : State :=
  s.modifyPort p fun x => { x with link := .stale, silenceDue := false }
/-- One robot is taken: its ROBOT notice, then its removal from the claim table. -/
def State.takeRobot (s : State) (r : Robot) (a : State) : State := (a.raiseRobot .stale r).unseat r .stale s
/-- The cooldown of a claim that a silence expiry ends (R131, R133). -/
def State.staleCooldown (s : State) (e : Elem) : ClaimTimer :=
  .cool (s.endsBeforeTick e .stale) (s.activeProfile e).cooldownMs
/-- An element whose wait list has lost the robots taken. -/
def Element.without (done : List Robot) (x : Element) : Element :=
  { x with claim := { x.claim with waiters := x.claim.waiters.filter fun w => w ∉ done } }

/-- An element whose claim has ended with the removal of its holder, after the robots `done` are taken: it is
RETURNING, or it is a gate that has jammed as its return began (R73, R95). -/
def State.Ended (s : State) (done : List Robot) (e : Elem) (r : Robot) (y : Element) : Prop :=
  (y.claim = ⟨.returning, (s.robot r).alliance, (s.claim e).waiters.filter fun w => w ∉ done⟩ ∧
    ((s.element e).header.kind ≠ .gate → y.timer = s.staleCooldown e)) ∨
  ((s.element e).header.kind = .gate ∧ (s.element e).bothLimits = true ∧
    ∃ last, y.claim = ⟨.blocked .jam, last, []⟩)

/-- The state after the robots `done` of a silent port are taken. -/
structure State.Taken (s : State) (p : Port) (done : List Robot) (a : State) : Prop where
  arbitrates : (s.madeStale p).Arbitrates a
  unheld : ∀ e, (∀ r ∈ done, (s.claim e).state ≠ .held r) → a.element e = (s.element e).without done
  vacated : ∀ e r, r ∈ done → (s.claim e).state = .held r → s.Ended done e r (a.element e)

theorem State.takeRobot_arbitrates (s : State) (r : Robot) (a : State) : a.Arbitrates (s.takeRobot r a) :=
  (State.raiseRobot_arbitrates .stale r a).trans (State.unseat_arbitrates r .stale _ s)

/-! ## One robot taken, by its seat -/

section
variable {s a : State} {r : Robot} {e : Elem}

theorem State.takeRobot_absent (s : State) (h : ∀ e, ¬ a.Seats r e) : s.takeRobot r a = a.raiseRobot .stale r := by
  have held : (a.raiseRobot .stale r).heldBy r = none := State.heldBy_eq_none.mpr fun e k => h e (.inl k)
  have waits : (a.raiseRobot .stale r).waitOf r = none := State.waitOf_eq_none.mpr fun e k => h e (.inr k)
  rw [State.takeRobot, State.unseat, held]
  dsimp only
  rw [waits]
theorem State.takeRobot_holder (s : State) (ha : a.OneSeat) (hh : (a.claim e).state = .held r) :
    s.takeRobot r a = (a.raiseRobot .stale r).leaveHolder e r .stale := by
  have held : (a.raiseRobot .stale r).heldBy r = some e := ha.heldBy hh
  rw [State.takeRobot, State.unseat, held]
/-- The DROPPED notice carries the position in the list as it stood before the event (R72). -/
theorem State.takeRobot_waiter (hs : s.OneSeat) (ha : a.OneSeat) (hw : r ∈ (a.claim e).waiters) {k : Nat}
    (hk : (s.claim e).waiters[k]? = some r) :
    s.takeRobot r a = (a.raiseRobot .stale r).dropWaiter e r .stale (k + 1) := by
  have held : (a.raiseRobot .stale r).heldBy r = none := State.heldBy_eq_none.mpr fun e' h => ha.not_waits h hw
  obtain ⟨now, hnow⟩ := Option.isSome_iff_exists.mp ((positionIn_isSome _ _).mpr hw)
  have waits : (a.raiseRobot .stale r).waitOf r = some (e, now) := ha.waitOf hnow
  have before : s.waitOf r = some (e, k + 1) := hs.waitOf (positionIn_of_getElem? (hs.nodup e) hk)
  rw [State.takeRobot, State.unseat, held]
  dsimp only
  rw [waits]
  dsimp only
  rw [before]
  rfl

/-- A robot that is taken leaves the lists of the elements that it does not hold. -/
theorem State.takeRobot_element (s : State) (ha : a.OneSeat) (hh : (a.claim e).state ≠ .held r) :
    (s.takeRobot r a).element e = (a.element e).without [r] := by
  have idle : r ∉ (a.claim e).waiters → a.element e = (a.element e).without [r] := fun hw => by
    have : (a.claim e).waiters.filter (fun w => w ∉ [r]) = (a.claim e).waiters :=
      List.filter_eq_self.mpr fun w h => by simpa using fun k : w = r => hw (k ▸ h)
    rw [Element.without, ← State.claim, this]
    rfl
  unfold State.takeRobot State.unseat
  split
  · rename_i e' held
    have held' : (a.claim e').state = .held r := State.seats_of_heldBy held
    rw [State.leaveHolder_local e' r .stale _ e fun k => hh (by rw [k, held']), ← idle (ha.not_waits held')]
    rfl
  · split
    · rename_i e' now waits
      have hw : r ∈ (a.claim e').waiters := State.waits_of_waitOf waits
      rw [State.dropWaiter_element]
      split
      · rename_i he
        subst he
        simp only [Element.without, List.mem_singleton]
        rfl
      · rename_i hne
        rw [← idle fun k => hne (ha.unique (.inr k) (.inr hw))]
        rfl
    · rename_i waits
      rw [← idle (State.waitOf_eq_none.mp waits e)]
      rfl

end

theorem Element.without_append (done : List Robot) (r : Robot) (x : Element) :
    x.without (done ++ [r]) = (x.without done).without [r] := by
  simp [Element.without, List.filter_filter, and_comm]

/-! ## The law of every turn -/

section
variable {s a : State} {p : Port} {done : List Robot} (h : s.Taken p done a)
include h

theorem State.Taken.cases (e : Elem) :
    (∀ r ∈ done, (s.claim e).state ≠ .held r) ∧ a.element e = (s.element e).without done ∨
    ∃ r ∈ done, (s.claim e).state = .held r ∧ s.Ended done e r (a.element e) := by
  by_cases k : ∃ r ∈ done, (s.claim e).state = .held r
  · obtain ⟨r, hr, hh⟩ := k
    exact .inr ⟨r, hr, hh, h.vacated e r hr hh⟩
  · push Not at k
    exact .inl ⟨k, h.unheld e k⟩
/-- Only the robots taken have lost their elements. -/
theorem State.Taken.held {e : Elem} {r : Robot} :
    (a.claim e).state = .held r ↔ (s.claim e).state = .held r ∧ r ∉ done := by
  rw [State.claim]
  rcases h.cases e with ⟨hu, he⟩ | ⟨r', hr', hh', ⟨hc, -⟩ | ⟨-, -, last, hc⟩⟩
  · rw [he]
    exact ⟨fun k => ⟨k, fun hr => hu r hr k⟩, And.left⟩
  all_goals
    rw [hc, hh']
    exact ⟨nofun, fun ⟨k, hr⟩ => absurd (ClaimState.held.inj k ▸ hr') hr⟩
/-- The lists have lost the robots taken; a gate that has jammed has lost its whole list (R95). -/
theorem State.Taken.waiters (quiet : ∀ e, (s.claim e).state.isBlocked = true → (s.claim e).waiters = []) (e : Elem) :
    (a.claim e).waiters = if (a.claim e).state.isBlocked = true then []
      else (s.claim e).waiters.filter fun w => w ∉ done := by
  rw [State.claim]
  rcases h.cases e with ⟨-, he⟩ | ⟨r, -, -, ⟨hc, -⟩ | ⟨-, -, last, hc⟩⟩
  · rw [he]
    by_cases hb : (s.claim e).state.isBlocked = true
    · have hw := quiet e hb
      simp only [State.claim] at hb hw
      simp [Element.without, hb, hw]
    · simp only [State.claim] at hb
      simp [Element.without, hb, State.claim]
  · simp [hc, ClaimState.isBlocked]
  · simp [hc, ClaimState.isBlocked]
theorem State.Taken.blocked {e : Elem} (hb : (a.claim e).state.isBlocked = true) :
    (s.claim e).state.isBlocked = true ∨ (s.element e).header.kind = .gate ∧ (s.element e).bothLimits = true ∧
      ∃ r ∈ done, (s.claim e).state = .held r := by
  rw [State.claim] at hb
  rcases h.cases e with ⟨-, he⟩ | ⟨r, hr, hh, ⟨hc, -⟩ | ⟨hk, hl, -⟩⟩
  · rw [he] at hb
    exact .inl hb
  · rw [hc] at hb
    cases hb
  · exact .inr ⟨hk, hl, r, hr, hh⟩
theorem State.Taken.waiters_sublist (e : Elem) :
    (a.claim e).waiters.Sublist ((s.claim e).waiters.filter fun w => w ∉ done) := by
  rw [State.claim]
  rcases h.cases e with ⟨-, he⟩ | ⟨r, -, -, ⟨hc, -⟩ | ⟨-, -, last, hc⟩⟩
  · rw [he]
    exact .refl _
  · rw [hc]
  · rw [hc]
    exact List.nil_sublist _
theorem State.Taken.oneSeat (hs : s.OneSeat) : a.OneSeat :=
  hs.of_sublist (fun k => (h.held.mp k).1) fun e => (h.waiters_sublist e).trans List.filter_sublist
/-- No robot that has been taken has a seat. -/
theorem State.Taken.not_seats {r : Robot} (hr : r ∈ done) (e : Elem) : ¬ a.Seats r e := fun k =>
  k.elim (fun k => (h.held.mp k).2 hr) fun k => by
    simpa [hr] using (List.mem_filter.mp ((h.waiters_sublist e).mem k)).2
theorem State.Taken.clock : a.clock = s.clock := h.arbitrates.plays.clock
theorem State.Taken.activeProfile (e : Elem) : a.activeProfile e = s.activeProfile e :=
  h.arbitrates.plays.activeProfile e
theorem State.Taken.alliance (r : Robot) : (a.robot r).alliance = (s.robot r).alliance := by
  have := congrArg RobotRecord.alliance (h.arbitrates.plays.rosters r)
  exact this

/-! ## The removal of a holder -/

section
variable {r : Robot} {e : Elem} (hr : r ∉ done) (hh : (s.claim e).state = .held r)
include hr hh

/-- The element of a holder still to be taken has lost no more than waiters. -/
theorem State.Taken.heldElement :
    a.element e = { s.element e with claim := { (s.element e).claim with waiters := (a.claim e).waiters } } := by
  have element : a.element e = (s.element e).without done :=
    h.unheld e fun r' hr' k => hr (ClaimState.held.inj (hh.symm.trans k) ▸ hr')
  rw [State.claim, element]
  rfl
theorem State.Taken.vacate_element : ((a.raiseRobot .stale r).vacate e r .stale).element e = Element.claimEnded
    { s.element e with claim := ⟨.returning, (s.robot r).alliance, (a.claim e).waiters⟩ } := by
  rw [State.vacate_element, ← h.alliance r]
  change Element.claimEnded { a.element e with claim := ⟨.returning, (a.robot r).alliance, (a.claim e).waiters⟩ } = _
  rw [h.heldElement hr hh]
theorem State.Taken.takeRobot_held (hs : s.OneSeat) : s.takeRobot r a =
    if (s.element e).header.kind = .gate then
      (((a.raiseRobot .stale r).vacate e r .stale).setTimer e .stopped).beginReturn e
    else ((a.raiseRobot .stale r).vacate e r .stale).setTimer e (s.staleCooldown e) := by
  rw [State.takeRobot_holder s (h.oneSeat hs) (h.held.mpr ⟨hh, hr⟩), State.leaveHolder_eq]
  change (if (a.element e).header.kind = .gate then _
    else State.setTimer e (.cool (a.endsBeforeTick e .stale) (a.activeProfile e).cooldownMs) _) = _
  rw [State.endsBeforeTick, h.activeProfile, h.heldElement hr hh]
  rfl
/-- The element whose claim ends with the robot taken now. -/
theorem State.Taken.ended (hs : s.OneSeat) : s.Ended (done ++ [r]) e r ((s.takeRobot r a).element e) := by
  have stay : (a.claim e).waiters = (s.claim e).waiters.filter fun w => w ∉ done ++ [r] := by
    rw [State.claim, h.unheld e fun r' hr' k => hr (ClaimState.held.inj (hh.symm.trans k) ▸ hr')]
    refine List.filter_congr fun w hw => ?_
    have : w ≠ r := fun k => hs.apart hh (k ▸ hw)
    simp [this]
  have claim : ∀ t, (((a.raiseRobot .stale r).vacate e r .stale).setTimer e t).claim e =
      ⟨.returning, (s.robot r).alliance, (s.claim e).waiters.filter fun w => w ∉ done ++ [r]⟩ := fun t => by
    rw [State.claim, State.setTimer, State.element_modifyElement_self, h.vacate_element hr hh, stay]
    exact Element.claimEnded_claim _
  rw [h.takeRobot_held hr hh hs]
  split
  · rename_i gate
    have plan := (((h.arbitrates.trans (State.raiseRobot_arbitrates .stale r a)).trans
      (State.vacate_arbitrates e r .stale _)).trans (State.setTimer_arbitrates e .stopped _)).plays.plans e
    rcases State.beginReturn_claim (congrArg ClaimRecord.state (claim .stopped)) with k | ⟨limits, last, k⟩
    · exact .inl ⟨k.trans (claim _), fun k => absurd gate k⟩
    · exact .inr ⟨gate, plan.bothLimits ▸ limits, last, k⟩
  · refine .inl ⟨claim _, fun _ => ?_⟩
    rw [State.setTimer, State.element_modifyElement_self]

end

theorem State.Taken.next (hs : s.OneSeat) {r : Robot} (hr : r ∉ done) :
    s.Taken p (done ++ [r]) (s.takeRobot r a) where
  arbitrates := h.arbitrates.trans (s.takeRobot_arbitrates r a)
  unheld := fun e hu => by
    rw [State.takeRobot_element s (h.oneSeat hs) fun k => hu r (by simp) (h.held.mp k).1,
      h.unheld e fun r' hr' => hu r' (by simp [hr']), Element.without_append]
  vacated := fun e r' hr' hh => by
    by_cases hrr : r' = r
    · subst hrr
      exact h.ended hr hh hs
    have hd : r' ∈ done := by simpa [hrr] using hr'
    have hne : (s.claim e).state ≠ .held r := fun k => hrr (ClaimState.held.inj (hh.symm.trans k))
    rw [State.takeRobot_element s (h.oneSeat hs) fun k => hne (h.held.mp k).1]
    rcases h.vacated e r' hd hh with ⟨hc, ht⟩ | ⟨hk, hl, last, hc⟩
    · refine .inl ⟨?_, ht⟩
      rw [Element.without, hc]
      simp [List.filter_filter, and_comm]
    · refine .inr ⟨hk, hl, last, ?_⟩
      rw [Element.without, hc]
      rfl

end

theorem Element.without_nil (x : Element) : x.without [] = x := by
  rw [Element.without, List.filter_eq_self.mpr fun _ _ => by simp]
theorem State.taken_nil (s : State) (p : Port) : s.Taken p [] (s.madeStale p) where
  arbitrates := .refl _
  unheld := fun _ _ => (Element.without_nil _).symm
  vacated := nofun

/-- A robot of an order stands after those taken before it. -/
theorem not_mem_take_of_getElem? {order : List Robot} (distinct : order.Nodup) {n : Nat} {r : Robot}
    (hn : order[n]? = some r) : r ∉ order.take n := fun h => by
  obtain ⟨i, hi, rfl⟩ := List.mem_take_iff_getElem.mp h
  obtain ⟨hlt, he⟩ := List.getElem?_eq_some_iff.mp hn
  have := (distinct.getElem_inj_iff (hi := hlt)).mp he
  omega

/-- The state after the first robots of an order are taken. -/
def State.turn (s : State) (p : Port) (order : List Robot) (n : Nat) : State :=
  (s.madeStale p).forEach (order.take n) s.takeRobot

theorem State.turn_succ (s : State) (p : Port) {order : List Robot} {n : Nat} {r : Robot} (hn : order[n]? = some r) :
    s.turn p order (n + 1) = s.takeRobot r (s.turn p order n) := by
  rw [State.turn, List.take_add_one, hn]
  exact List.foldl_append
theorem State.turn_taken {s : State} (hs : s.OneSeat) (p : Port) {order : List Robot} (distinct : order.Nodup)
    (n : Nat) : s.Taken p (order.take n) (s.turn p order n) := by
  induction n with
  | zero => exact s.taken_nil p
  | succ n ih =>
    cases hn : order[n]? with
    | none =>
      have same : order.take (n + 1) = order.take n := by simp [List.take_add_one, hn]
      rwa [State.turn, same]
    | some r =>
      rw [State.turn_succ s p hn, List.take_add_one, hn]
      exact ih.next hs (not_mem_take_of_getElem? distinct hn)

end Sys2Proof.Machine

namespace Sys2Proof.Machine

/-! # What one robot taken shows (R53, R57, R68, R72) -/

/-- A record of the silence expiry, with the match state and time of the event. -/
def State.staleNote (s : State) (k : NoticeKind) (r : Robot) (e : Option Elem) (v : Option Int) : Notice :=
  s.notice k (some .stale) (some r) e v

/-- Nothing but one element and the queues differs, and the mirrors agree with the claim table. -/
def State.Beside (e : Elem) (a b : State) : Prop :=
  a.SameElementsBut e b ∧ a.SameMatch b ∧ a.SameScores b ∧ a.SameRosters b ∧ a.SamePorts b ∧
    ∀ r, (b.robot r).held = b.heldBy r ∧ (b.robot r).waiting = b.waitOf r

theorem State.Arbitrates.beside {e : Elem} {a b : State} (h : a.Arbitrates b) (hl : a.SameElementsBut e b)
    (hm : ∀ r, (b.robot r).held = b.heldBy r ∧ (b.robot r).waiting = b.waitOf r) : a.Beside e b :=
  ⟨hl, h.plays.same, h.scores, h.plays.rosters, h.plays.ports, hm⟩

theorem State.madeStale_enabled {s : State} {p : Port} {r : Robot} (hb : (s.robot r).bound = some p) :
    (s.madeStale p).enabled r = false := by
  have robot : (s.madeStale p).robot r = s.robot r := rfl
  have port : ((s.madeStale p).port p).link = .stale := by rw [State.madeStale, State.port_modifyPort_self]
  simp [State.enabled, State.robotLink, robot, hb, port]

section
variable {s a : State} {p : Port} {done : List Robot} (h : s.Taken p done a)
include h

theorem State.Taken.note (k : NoticeKind) (r : Robot) (e : Option Elem) (v : Option Int) :
    a.staleNote k r e v = s.staleNote k r e v := by
  rw [State.staleNote, State.notice, h.clock]
  rfl
/-- The ROBOT notice of a robot taken: its value is clear, since its link is STALE (R53, R56). -/
theorem State.Taken.raiseRobot {r : Robot} (hb : (s.robot r).bound = some p) :
    a.OnlyHands [s.staleNote .robot r none (some 0)] (a.raiseRobot .stale r) := by
  have value : a.enabled r = false := by rw [h.arbitrates.plays.enabled, State.madeStale_enabled hb]
  have := State.raiseRobot_onlyHands .stale r a
  rwa [State.robotNotice, value, ← State.staleNote, h.note] at this
/-- The ROBOT notice of a robot taken and the notice of its seat directly after it. -/
theorem State.Taken.handedPair {r : Robot} (hb : (s.robot r).bound = some p) {n : Notice} {b : State}
    (hn : (a.raiseRobot .stale r).Handed n b) : a.HandedAll [s.staleNote .robot r none (some 0), n] b :=
  (h.raiseRobot hb).handed.append (.single hn) (State.raiseRobot_arbitrates .stale r a).plays.routes

theorem State.Taken.absent {r : Robot} (hb : (s.robot r).bound = some p) (h0 : a.places r = 0) :
    s.takeRobot r a = { a with ports := (s.takeRobot r a).ports } ∧ a.SamePorts (s.takeRobot r a) ∧
      a.Handed (s.staleNote .robot r none (some 0)) (s.takeRobot r a) := by
  rw [State.takeRobot_absent s (State.places_eq_zero.mp h0)]
  refine ⟨rfl, (h.raiseRobot hb).ports, fun q => ((h.raiseRobot hb).handed q).trans ?_⟩
  cases hr : a.routes (s.staleNote .robot r none (some 0)) q <;> simp [hr]

theorem State.Taken.waiter (hs : s.OneSeat) {r : Robot} (hb : (s.robot r).bound = some p) {e : Elem} {k : Nat}
    (hw : r ∈ (a.claim e).waiters) (hk : (s.claim e).waiters[k]? = some r) :
    a.Beside e (s.takeRobot r a) ∧
    (s.takeRobot r a).element e =
      { a.element e with claim := { a.claim e with waiters := (a.claim e).waiters.filter fun w => w ≠ r } } ∧
    a.HandedAll [s.staleNote .robot r none (some 0), s.staleNote .dropped r (some e) (some ((k + 1 : Nat) : Int))]
      (s.takeRobot r a) := by
  have element := s.takeRobot_arbitrates r a
  rw [State.takeRobot_waiter hs (h.oneSeat hs) hw hk] at element ⊢
  refine ⟨element.beside ?_ (State.setClaim_mirrors e _ _), (State.dropWaiter_element e e r _ _ _).trans (if_pos rfl),
    h.handedPair hb ?_⟩
  · exact (State.raise_local e _ _ _ _ _ a).trans (State.dropWaiter_local e r _ _ _)
  · rw [← h.note]
    exact State.setClaim_raise_handed _ e _ .dropped (some .stale) (some r) _

theorem State.Taken.holder (hs : s.OneSeat) {r : Robot} (hb : (s.robot r).bound = some p) {e : Elem} (hr : r ∉ done)
    (hh : (s.claim e).state = .held r) : ∃ v : State,
    a.Beside e v ∧ a.HandedAll [s.staleNote .robot r none (some 0), s.staleNote .lost r (some e) none] v ∧
    v.element e = Element.claimEnded
      { s.element e with claim := ⟨.returning, (s.robot r).alliance, (a.claim e).waiters⟩ } ∧
    s.takeRobot r a = if (s.element e).header.kind = .gate then (v.setTimer e ⟨false, 0⟩).beginReturn e
      else v.setTimer e (s.staleCooldown e) := by
  have arbitrates := (State.raiseRobot_arbitrates .stale r a).trans (State.vacate_arbitrates e r .stale _)
  refine ⟨(a.raiseRobot .stale r).vacate e r .stale, arbitrates.beside ?_ (State.vacate_mirrors e r .stale _),
    h.handedPair hb ?_, h.vacate_element hr hh, h.takeRobot_held hr hh hs⟩
  · exact (State.raise_local e _ _ _ _ _ a).trans (State.vacate_local e r .stale _)
  · rw [← h.note]
    exact State.vacate_handed e r .stale _

end

/-! # Returns that need no time (R73, R75) -/

/-- The elements that robots of a port hold, in the order of their holders. -/
def State.vacatedBy (s : State) (p : Port) (rs : List Robot) : List Elem :=
  (rs.filter fun r => (s.robot r).bound = some p).filterMap s.heldBy
/-- The state after the returns are settled of the holders in the first slots. -/
def State.back (s : State) (p : Port) (order : List Robot) (n : Nat) : State :=
  (s.turn p order order.length).forEach (s.vacatedBy p (allRobots.take n)) State.finishReturn

theorem State.silenceExpiry_eq (p : Port) (s : State) : s.silenceExpiry p = s.back p (s.silenceOrder p) 16 := by
  rw [State.back, State.turn, List.take_length]
  rfl
theorem mem_take_allRobots {n : Nat} {r : Robot} : r ∈ allRobots.take n ↔ r.val < n := by
  rw [allRobots, List.mem_take_iff_getElem]
  constructor
  · rintro ⟨i, hi, rfl⟩
    simpa using (Nat.lt_min.mp hi).1
  · exact fun h => ⟨r.val, by simpa using h, by simp⟩
theorem take_allRobots_succ (r : Robot) : allRobots.take (r.val + 1) = allRobots.take r.val ++ [r] := by
  simp [List.take_add_one, allRobots]
theorem State.mem_vacatedBy {s : State} {p : Port} {rs : List Robot} {e : Elem} (h : e ∈ s.vacatedBy p rs) :
    ∃ r ∈ rs, (s.robot r).bound = some p ∧ (s.claim e).state = .held r := by
  obtain ⟨r, hr, he⟩ := List.mem_filterMap.mp h
  obtain ⟨hm, hb⟩ := List.mem_filter.mp hr
  exact ⟨r, hm, by simpa using hb, State.seats_of_heldBy he⟩
theorem State.vacatedBy_nodup (s : State) (p : Port) {rs : List Robot} (distinct : rs.Nodup) :
    (s.vacatedBy p rs).Nodup :=
  (distinct.filter _).filterMap fun _ _ _ h h' =>
    ClaimState.held.inj ((State.seats_of_heldBy h).symm.trans (State.seats_of_heldBy h'))

section
variable {s : State} {p : Port} {order : List Robot}

theorem State.back_arbitrates (s : State) (p : Port) (order : List Robot) (n : Nat) :
    (s.turn p order order.length).Arbitrates (s.back p order n) :=
  State.forEach_arbitrates State.finishReturn_arbitrates _
/-- An element whose holder's slot has not come stands as the turns left it. -/
theorem State.back_element {n : Nat} {e : Elem}
    (he : ∀ r : Robot, r.val < n → (s.robot r).bound = some p → (s.claim e).state ≠ .held r) :
    (s.back p order n).element e = (s.turn p order order.length).element e := by
  refine State.forEach_keeps (fun t => t.element e = (s.turn p order order.length).element e) (fun e' he' t ht => ?_)
    rfl
  obtain ⟨r, hr, hb, hh⟩ := State.mem_vacatedBy he'
  rw [State.finishReturn_local e' t e fun k => he r (mem_take_allRobots.mp hr) hb (k ▸ hh), ht]
theorem State.back_succ (s : State) (p : Port) (order : List Robot) (r : Robot) : s.back p order (r.val + 1) =
    (s.back p order r.val).forEach (s.vacatedBy p [r]) State.finishReturn := by
  rw [State.back, take_allRobots_succ, State.vacatedBy, List.filter_append, List.filterMap_append]
  exact List.foldl_append
theorem State.back_succ_holder (hs : s.OneSeat) {r : Robot} {e : Elem} (hb : (s.robot r).bound = some p)
    (hh : (s.claim e).state = .held r) : s.back p order (r.val + 1) = (s.back p order r.val).finishReturn e := by
  simp [State.back_succ, State.vacatedBy, hb, hs.heldBy hh]
theorem State.back_succ_idle {r : Robot} (h : ∀ e, (s.robot r).bound = some p → (s.claim e).state ≠ .held r) :
    s.back p order (r.val + 1) = s.back p order r.val := by
  have none : s.vacatedBy p [r] = [] := List.eq_nil_iff_forall_not_mem.mpr fun e he => by
    obtain ⟨r', hr', hb, hh⟩ := State.mem_vacatedBy he
    obtain rfl := List.mem_singleton.mp hr'
    exact h e hb hh
  rw [State.back_succ, none, State.forEach_nil]

/-- The cooldown of a claim that a silence expiry ends runs where it is not 0. -/
theorem State.staleCooldown_running (s : State) (e : Elem) :
    (s.staleCooldown e).running = decide ((s.activeProfile e).cooldownMs ≠ 0) := by
  rw [State.staleCooldown, ClaimTimer.cool_cases]
  split <;> simp [*, ClaimTimer.stopped]
/-- Whether a return that the removal of a holder began needs no time (R73). -/
theorem State.Ended.returnDue {done : List Robot} {e : Elem} {r : Robot} {y : Element} (h : s.Ended done e r y)
    (header : y.header = (s.element e).header) : y.returnDue = true ↔ y.claim.state = .returning ∧
      if (s.element e).header.kind = .gate then y.motion = .atRest else (s.activeProfile e).cooldownMs = 0 := by
  rcases h with ⟨hc, ht⟩ | ⟨-, -, last, hc⟩
  · by_cases hk : (s.element e).header.kind = .gate
    · simp [Element.returnDue, hc, header, hk]
    · have timer : (!y.timer.running) = decide ((s.activeProfile e).cooldownMs = 0) := by
        rw [ht hk, State.staleCooldown_running]
        simp
      unfold Element.returnDue
      rw [header]
      cases k : (s.element e).header.kind with
      | gate => exact absurd k hk
      | none | dispenser | goal | beacon => simp [hc, timer]
  · simp [Element.returnDue, hc]

section
variable (hs : s.OneSeat) (distinct : order.Nodup) (bound : ∀ r, r ∈ order ↔ (s.robot r).bound = some p)
include hs distinct

theorem State.turns_taken : s.Taken p order (s.turn p order order.length) := by
  have := State.turn_taken hs p distinct order.length
  rwa [List.take_length] at this
theorem State.back_plays (n : Nat) : (s.madeStale p).Arbitrates (s.back p order n) :=
  (State.turns_taken hs distinct).arbitrates.trans (s.back_arbitrates p order n)

include bound

/-- No robot of the port has a seat in the end: a return that ends seats a robot of another port (R77). -/
theorem State.back_not_seats (n : Nat) {r : Robot} (hb : (s.robot r).bound = some p) (e : Elem) :
    ¬ (s.back p order n).Seats r e := by
  have turns := State.turns_taken hs distinct (p := p)
  revert e
  exact State.forEach_keeps (fun t => ∀ e, ¬ t.Seats r e) (fun _ _ _ ht e k => ht e (State.finishReturn_seats k))
    fun e => turns.not_seats ((bound r).mpr hb) e

theorem State.back_holder {r : Robot} {e : Elem} (hb : (s.robot r).bound = some p)
    (hh : (s.claim e).state = .held r) :
    let y := s.back p order r.val
    y.element e = (s.turn p order order.length).element e ∧ s.Ended order e r (y.element e) ∧
      (y.element e).header = (s.element e).header := by
  have element := State.back_element (s := s) (p := p) (order := order) (n := r.val) (e := e) fun r' hr' _ k => by
    rw [ClaimState.held.inj (hh.symm.trans k)] at hr'
    exact hr'.ne rfl
  refine ⟨element, element ▸ (State.turns_taken hs distinct).vacated e r ((bound r).mpr hb) hh, ?_⟩
  exact ((State.back_plays hs distinct r.val).plays.plans e).header

/-- The returns settled of one slot (R73). -/
theorem State.back_step (r : Robot) :
    let y := s.back p order r.val
    let ends : Elem → Prop := fun e => (s.robot r).bound = some p ∧ (s.claim e).state = .held r ∧
      (y.claim e).state = .returning ∧
      (if (s.element e).header.kind = .gate then (y.element e).motion = .atRest else (s.activeProfile e).cooldownMs = 0)
    (∀ e, ends e → s.back p order (r.val + 1) = y.settleReturn e) ∧
      ((∀ e, ¬ ends e) → s.back p order (r.val + 1) = y) := by
  intro y ends
  have due : ∀ e, (s.robot r).bound = some p → (s.claim e).state = .held r →
      ((y.element e).returnDue = true ↔ ends e) := fun e hb hh => by
    obtain ⟨-, hended, header⟩ := State.back_holder hs distinct bound hb hh
    rw [hended.returnDue header]
    exact ⟨fun k => ⟨hb, hh, k⟩, fun k => k.2.2⟩
  constructor
  · intro e k
    obtain ⟨hb, hh, -⟩ := id k
    rw [State.back_succ_holder hs hb hh, State.finishReturn, if_pos ((due e hb hh).mpr k)]
  · intro k
    by_cases he : ∃ e, (s.robot r).bound = some p ∧ (s.claim e).state = .held r
    · obtain ⟨e, hb, hh⟩ := he
      rw [State.back_succ_holder hs hb hh, State.finishReturn, if_neg (mt (due e hb hh).mp (k e))]
    · push Not at he
      exact State.back_succ_idle he

/-- An element that no robot of the port holds, in the end. -/
theorem State.back_unheld (n : Nat) {e : Elem}
    (he : ∀ r, (s.robot r).bound = some p → (s.claim e).state ≠ .held r) :
    (s.back p order n).element e = (s.element e).without order := by
  rw [State.back_element fun r _ => he r]
  exact (State.turns_taken hs distinct).unheld e fun r hr => he r ((bound r).mp hr)

/-- An element with a cooldown to run off stands in RETURNING in the end (R131, R133). -/
theorem State.back_cooling {r : Robot} {e : Elem} (hb : (s.robot r).bound = some p)
    (hh : (s.claim e).state = .held r) (hk : (s.element e).header.kind ≠ .gate)
    (hc : 0 < (s.activeProfile e).cooldownMs) :
    (s.back p order 16).claim e =
        ⟨.returning, (s.robot r).alliance, (s.claim e).waiters.filter fun w => w ∉ order⟩ ∧
      ((s.back p order 16).element e).timer = s.staleCooldown e := by
  obtain ⟨element, hended, header⟩ := State.back_holder hs distinct bound hb hh
  have idle : ((s.turn p order order.length).element e).returnDue ≠ true := by
    rw [← element, Ne, hended.returnDue header, if_neg hk]
    omega
  have final : (s.back p order 16).element e = (s.turn p order order.length).element e := by
    refine State.forEach_keeps (fun t => t.element e = (s.turn p order order.length).element e)
      (fun e' _ t ht => ?_) rfl
    by_cases hne : e = e'
    · subst hne
      rw [State.finishReturn, ht, if_neg idle, ht]
    · rw [State.finishReturn_local e' t e hne, ht]
  rw [State.claim, final, ← element]
  rcases hended with ⟨claim, timer⟩ | ⟨gate, -⟩
  · exact ⟨claim, timer hk⟩
  · exact absurd gate hk

end

end

/-! # The silence expiry (R53) -/

/-- The cooldown of a claim that a silence expiry ends, less the tick that a claim timer at 0 has had (R131, R133). -/
theorem State.staleCooldown_eq (s : State) (e : Elem) : s.staleCooldown e =
    if (s.activeProfile e).cooldown.getD 0 = 0 then ⟨false, 0⟩
    else ⟨true, (s.activeProfile e).cooldown.getD 0 - if (s.element e).timer = ⟨true, 0⟩ then 1 else 0⟩ := by
  have late : s.endsBeforeTick e .stale = decide ((s.element e).timer = ⟨true, 0⟩) := by
    rw [State.endsBeforeTick]
    rcases (s.element e).timer with ⟨running, count⟩
    simp [Cause.beforeTick, ClaimTimer.due]
  rw [State.staleCooldown, ClaimTimer.cool_cases, late, Profile.cooldownMs, ClaimTimer.stopped]
  by_cases h : (s.element e).timer = ⟨true, 0⟩ <;> simp [h]

theorem State.staleCooldown_cooling {s : State} {e : Elem} (h : 0 < (s.activeProfile e).cooldown.getD 0) :
    s.staleCooldown e =
      ⟨true, (s.activeProfile e).cooldown.getD 0 - if (s.element e).timer = ⟨true, 0⟩ then 1 else 0⟩ := by
  rw [State.staleCooldown_eq, if_neg h.ne']

/-- A BLOCKED element has no waiters (R62). -/
theorem State.waiters_of_blocked {s : State} (h : s.ClaimsOk) {e : Elem} (hb : (s.claim e).state.isBlocked = true) :
    (s.claim e).waiters = [] := by
  by_contra hw
  have live := (h.1 e).2.1 hw
  cases k : (s.claim e).state with
  | blocked => simp [k, ClaimState.holder] at live
  | inert | free | held | returning => simp [k, ClaimState.isBlocked] at hb

/-- Settles O16: the turns by the law of the robots taken (`State.Taken`), the returns by the law of the elements that
their holders have left (`State.Ended`). -/
theorem silenceExpiryRemovesBoundRobots : Obligations.SilenceExpiryRemovesBoundRobots := by
  intro p s hruns hdue hclaims cooldown bound note late cooled slots mates
  have hs : s.OneSeat := State.oneSeat fun r => (hclaims.2 r).1
  have perm := hs.silenceOrder_perm p
  generalize ho : s.silenceOrder p = order at perm
  have distinct : order.Nodup := perm.nodup_iff.mp (s.boundTo_nodup p)
  have members : ∀ r, r ∈ order ↔ (s.robot r).bound = some p := fun r => perm.mem_iff.symm.trans State.mem_boundTo
  have remaining : ∀ e, ((s.claim e).waiters.filter fun w => w ∉ order) =
      (s.claim e).waiters.filter fun w => !bound w := fun e => List.filter_congr fun w _ => by simp [members, bound]
  have turns := State.turn_taken hs p distinct
  have plays := State.back_plays hs distinct (p := p) 16
  have isBound : ∀ r, bound r = true ↔ (s.robot r).bound = some p := fun r => decide_eq_true_iff
  have match_ : s.SameMatch (s.madeStale p) := ⟨rfl, rfl, rfl, rfl, rfl, rfl, rfl, rfl⟩
  refine ⟨order, s.agedOrder p, s.turn p order, s.back p order, s.back p order 16, ?_, ?_,
    s.agedOrder_length p, hs.agedOrder_filter p, fun _ _ _ => State.agedOrder_mate, rfl, rfl, rfl,
    ?_, ?_, ?_, ?_, ?_, ?_, ?_,
    match_.trans plays.plays.same, ⟨plays.scores.1, plays.scores.2⟩, plays.plays.rosters⟩
  · rw [exec_event_due (c := .silenceExpiry p) rfl hruns hdue, State.silenceExpiry_eq, ho]
  · rw [← ho]
    exact s.silenceOrder_eq p
  · intro n r hn a b robot beside
    have hr := (members r).mp (List.mem_of_getElem? hn)
    have fresh := not_mem_take_of_getElem? distinct hn
    have step : b = s.takeRobot r a := State.turn_succ s p hn
    rw [step]
    refine ⟨(turns n).waiters fun _ => State.waiters_of_blocked hclaims, fun e => (turns n).blocked,
      (isBound r).mpr hr, (turns n).absent hr, fun e k => (turns n).waiter hs hr, ?_⟩
    intro e hh x gate
    refine ⟨(turns n).heldElement fresh hh, ?_⟩
    obtain ⟨v, hbeside, hhanded, helement, hb⟩ := (turns n).holder hs hr fresh hh
    refine ⟨v, hbeside, hhanded, helement.trans (Element.claimEnded_eq _), fun hg => hb.trans (if_pos hg), fun hg => ?_⟩
    rw [hb, if_neg hg, State.staleCooldown_eq]
  · intro r
    simpa only [bound, decide_eq_true_eq, cooldown, Profile.cooldownMs] using State.back_step hs distinct members r
  · intro e he
    rw [State.back_unheld hs distinct members 16 fun r hr => he r ((isBound r).mpr hr), Element.without, ← State.claim,
      remaining]
  · intro e r hr hh hk hc
    rw [← State.staleCooldown_cooling hc, ← remaining]
    exact State.back_cooling hs distinct members ((isBound r).mp hr) hh hk hc
  · rw [plays.plays.ports p, State.madeStale, State.port_modifyPort_self]
    rfl
  · intro q hq
    rw [plays.plays.ports q, State.madeStale, State.port_modifyPort_ne _ _ _ _ hq]
  · intro r hr
    refine ⟨State.places_eq_zero.mpr (State.back_not_seats hs distinct members 16 ((isBound r).mp hr)), ?_⟩
    rw [plays.plays.enabled, State.madeStale_enabled ((isBound r).mp hr)]

end Sys2Proof.Machine

namespace Sys2Proof.Machine

/-! # The laws of a claim record (R61, R62, R63, R84, R86) -/

/-- The places that a claim record gives to a robot. -/
def ClaimRecord.placesOf (c : ClaimRecord) (r : Robot) : Nat :=
  (if c.state = .held r then 1 else 0) + c.waiters.count r

/-- The law of a wait list in every match state: at most four robots, and none but in HELD and RETURNING. -/
structure ClaimRecord.Formed (c : ClaimRecord) : Prop where
  capacity : c.waiters.length ≤ 4
  waiting : c.waiters ≠ [] → c.state.holder.isSome = true ∨ c.state = .returning

/-- The law of a claim record under an active use, `live` being whether a live phase is the current one. -/
structure ClaimRecord.Fits (live : Bool) (use : Use) (c : ClaimRecord) : Prop extends c.Formed where
  live : c.waiters ≠ [] ∨ c.state.holder.isSome = true → live = true
  free : c.state = .free → use = .claim
  inert : c.state = .inert → use ≠ .claim

/-- What arbiter and engines make of a claim record, short of a CLAIM and a REARM: no robot has more places in it, its
law is kept, and it stays BLOCKED. -/
structure ClaimRecord.Becomes (live : Bool) (use : Use) (c d : ClaimRecord) : Prop where
  places : ∀ r, d.placesOf r ≤ c.placesOf r
  fits : c.Fits live use → d.Fits live use
  blocked : c.state.isBlocked = true → d.state.isBlocked = true

theorem ClaimState.isBlocked_iff {c : ClaimState} : c.isBlocked = true ↔ ∃ b, c = .blocked b := by
  cases c <;> simp [ClaimState.isBlocked]
theorem ClaimState.holder_isSome {c : ClaimState} : c.holder.isSome = true ↔ ∃ r, c = .held r := by
  cases c <;> simp [ClaimState.holder]

section
variable {live : Bool} {use : Use} {c d : ClaimRecord}

theorem ClaimRecord.Becomes.refl (c : ClaimRecord) : c.Becomes live use c := ⟨fun _ => le_rfl, id, id⟩
theorem ClaimRecord.Becomes.trans {b : ClaimRecord} (h : b.Becomes live use c) (k : c.Becomes live use d) :
    b.Becomes live use d :=
  ⟨fun r => (k.places r).trans (h.places r), fun f => k.fits (h.fits f), fun f => k.blocked (h.blocked f)⟩

/-- A BLOCKED element has no waiters (R62). -/
theorem ClaimRecord.Formed.no_waiters (h : c.Formed) (hh : c.state.holder.isSome = false) (hr : c.state ≠ .returning) :
    c.waiters = [] := by
  by_contra hw
  rcases h.waiting hw with k | k
  · simp [hh] at k
  · exact hr k

/-- A record without holder and waiters gives no place. -/
theorem ClaimRecord.placesOf_vacant (hh : c.state.holder.isSome = false) (hw : c.waiters = []) (r : Robot) :
    c.placesOf r = 0 := by
  have : c.state ≠ .held r := fun k => by simp [k, ClaimState.holder] at hh
  simp [ClaimRecord.placesOf, this, hw]
/-- A record without holder and waiters is formed. -/
theorem ClaimRecord.Formed.vacant (hw : c.waiters = []) : c.Formed := ⟨by simp [hw], fun k => absurd hw k⟩

/-- Waiters are dropped (R72). -/
theorem ClaimRecord.Becomes.drop (c : ClaimRecord) (keep : Robot → Bool) :
    c.Becomes live use { c with waiters := c.waiters.filter keep } where
  places := fun r => Nat.add_le_add_left (List.filter_sublist.count_le r) _
  fits := fun h =>
    have some : c.waiters.filter keep ≠ [] → c.waiters ≠ [] := fun k hc => k (by simp [hc])
    ⟨⟨(List.length_filter_le _ _).trans h.capacity, fun k => h.waiting (some k)⟩,
      fun k => h.live (k.imp_left some), h.free, h.inert⟩
  blocked := id
/-- The last-holder alliance is no part of the laws. -/
theorem ClaimRecord.Becomes.forget (c : ClaimRecord) (a : Option Alliance) :
    c.Becomes live use { c with lastAlliance := a } :=
  ⟨fun _ => le_rfl, fun h => ⟨⟨h.capacity, h.waiting⟩, h.live, h.free, h.inert⟩, id⟩
/-- An element enters RETURNING with its wait list (R73). -/
theorem ClaimRecord.Becomes.leave (hb : c.state.isBlocked = false) (a : Option Alliance) :
    c.Becomes live use ⟨.returning, a, c.waiters⟩ where
  places := fun r => by simp [ClaimRecord.placesOf]
  fits := fun h => ⟨⟨h.capacity, fun _ => .inr rfl⟩, fun k => h.live (k.imp_right nofun), nofun, nofun⟩
  blocked := fun k => by simp [hb] at k
/-- An element becomes one without holder and waiters (R75, R80, R83). -/
theorem ClaimRecord.Becomes.vacate (hh : d.state.holder.isSome = false) (hw : d.waiters = [])
    (hf : d.state = .free → use = .claim) (hi : d.state = .inert → use ≠ .claim)
    (hb : c.state.isBlocked = true → d.state.isBlocked = true) : c.Becomes live use d where
  places := fun r => (ClaimRecord.placesOf_vacant hh hw r).trans_le (Nat.zero_le _)
  fits := fun _ => ⟨.vacant hw, fun k => k.elim (absurd hw) fun k => by simp [hh] at k, hf, hi⟩
  blocked := hb
/-- An element without waiters enters BLOCKED (R80). -/
theorem ClaimRecord.Becomes.block (hw : c.waiters = []) (b : BlockCause) :
    c.Becomes live use { c with state := .blocked b } := .vacate rfl hw nofun nofun fun _ => rfl
/-- A BLOCKED element takes another cause (R79). -/
theorem ClaimRecord.Becomes.reblock (hb : c.state.isBlocked = true) (b : BlockCause) :
    c.Becomes live use { c with state := .blocked b } where
  places := fun r => by simp [ClaimRecord.placesOf]
  fits := fun h => by
    obtain ⟨b', hb'⟩ := ClaimState.isBlocked_iff.mp hb
    have hw := h.no_waiters (by rw [hb']; rfl) (by rw [hb']; nofun)
    exact ⟨.vacant hw, fun k => k.elim (absurd hw) nofun, nofun, nofun⟩
  blocked := fun _ => rfl
/-- A waiter becomes holder under the use CLAIM (R77). -/
theorem ClaimRecord.Becomes.grant {r : Robot} (hb : c.state.isBlocked = false) (hl : live = true) (hr : r ∈ c.waiters) :
    c.Becomes live use { c with state := .held r, waiters := c.waiters.filter (· ≠ r) } where
  places := fun r' => by
    have : 0 < c.waiters.count r := List.count_pos_iff.mpr hr
    by_cases h : r' = r
    · subst h
      simp [ClaimRecord.placesOf, List.count_eq_zero_of_not_mem]
      omega
    · have := (List.filter_sublist (p := fun w => decide (w ≠ r)) (l := c.waiters)).count_le r'
      simp only [ClaimRecord.placesOf, ClaimState.held.injEq, Ne.symm h, if_false]
      omega
  fits := fun h => ⟨⟨(List.length_filter_le _ _).trans h.capacity, fun _ => .inl rfl⟩, fun _ => hl, nofun, nofun⟩
  blocked := fun k => by simp [hb] at k

end

/-! # What arbiter and engines make of the claim table -/

/-- The mirrors in the robot records agree with the claim table (R61). -/
def State.Mirrored (s : State) : Prop := ∀ r, (s.robot r).held = s.heldBy r ∧ (s.robot r).waiting = s.waitOf r

/-- What a claim record becomes under the clock and the profile of its element. -/
abbrev State.Becomes (s : State) (e : Elem) (d : ClaimRecord) : Prop :=
  (s.claim e).Becomes s.clock.currentLive.isSome (s.activeProfile e).use d

/-- What arbiter and engines keep, with what they make of every claim record. -/
structure State.KeepsClaims (s t : State) : Prop where
  plays : s.Plays t
  claims : ∀ e, s.Becomes e (t.claim e)
  mirrors : s.Mirrored → t.Mirrored

theorem State.Mirrored.of_same {s t : State} (h : s.Mirrored) (hc : ∀ e, t.claim e = s.claim e)
    (hr : ∀ r, (t.robot r).held = (s.robot r).held ∧ (t.robot r).waiting = (s.robot r).waiting) : t.Mirrored := fun r => by
  rw [State.heldBy_congr hc, State.waitOf_congr hc, (hr r).1, (hr r).2]
  exact h r

theorem State.KeepsClaims.refl (s : State) : s.KeepsClaims s := ⟨.refl s, fun _ => .refl _, id⟩
theorem State.KeepsClaims.trans {a b c : State} (h : a.KeepsClaims b) (k : b.KeepsClaims c) : a.KeepsClaims c where
  plays := h.plays.trans k.plays
  claims := fun e => (h.claims e).trans (by
    have := k.claims e
    rwa [State.Becomes, h.plays.same.clock, h.plays.activeProfile] at this)
  mirrors := fun m => k.mirrors (h.mirrors m)

/-- An operation that leaves the claim table as it is. -/
theorem State.Plays.keepsClaims {s t : State} (h : s.Plays t) (hc : ∀ e, t.claim e = s.claim e)
    (hr : t.robots = s.robots) : s.KeepsClaims t :=
  ⟨h, fun e => by rw [State.Becomes, hc]; exact .refl _,
    fun m => m.of_same hc fun r => by simp only [State.robot, hr, and_self]⟩

theorem State.forEach_keepsClaims {ι : Type} {xs : List ι} {act : ι → State → State}
    (h : ∀ i (s : State), s.KeepsClaims (act i s)) (s : State) : s.KeepsClaims (s.forEach xs act) :=
  State.forEach_rel State.KeepsClaims .refl .trans h s

/-! ## Single writes -/

theorem State.modifyElement_claims {e : Elem} {f : Element → Element} {s : State}
    (h : (f (s.element e)).claim = (s.element e).claim) (e' : Elem) : (s.modifyElement e f).claim e' = s.claim e' := by
  rw [State.claim, State.element_modifyElement]
  split
  · rename_i he; subst he; exact h
  · rfl
theorem State.modifyElement_keepsClaims {e : Elem} {f : Element → Element} (s : State)
    (hp : (s.element e).SamePlan (f (s.element e))) (hc : (f (s.element e)).claim = (s.element e).claim) :
    s.KeepsClaims (s.modifyElement e f) :=
  (State.modifyElement_arbitrates s hp).plays.keepsClaims (State.modifyElement_claims hc) rfl
theorem State.raise_keepsClaims (k : NoticeKind) (re : Option Reason) (r : Option Robot) (e : Option Elem)
    (v : Option Int) (s : State) : s.KeepsClaims (s.raise k re r e v) :=
  (State.raise_arbitrates k re r e v s).plays.keepsClaims (fun _ => rfl) rfl
theorem State.raiseRobot_keepsClaims (re : Reason) (r : Robot) (s : State) : s.KeepsClaims (s.raiseRobot re r) :=
  State.raise_keepsClaims _ _ _ _ _ s
theorem State.setTimer_keepsClaims (e : Elem) (t : ClaimTimer) (s : State) : s.KeepsClaims (s.setTimer e t) :=
  State.modifyElement_keepsClaims s ⟨rfl, rfl, rfl, rfl, rfl, rfl⟩ rfl
theorem State.setClaim_keepsClaims {e : Elem} {d : ClaimRecord} {s : State} (h : s.Becomes e d) :
    s.KeepsClaims (s.setClaim e d) where
  plays := (State.setClaim_arbitrates e d s).plays
  claims := fun e' => by
    rw [State.Becomes, State.setClaim_claim]
    split
    · rename_i he; subst he; exact h
    · exact .refl _
  mirrors := fun _ => State.setClaim_mirrors e d s

/-! ## The claim arbiter (sections 4.4 to 4.6) -/

theorem State.dropWaiters_keepsClaims (e : Elem) (re : Reason) (keep : Robot → Bool) (s : State) :
    s.KeepsClaims (s.dropWaiters e re keep) := by
  refine (State.setClaim_keepsClaims (.drop (s.claim e) keep)).trans
    ((State.raiseDrops_arbitrates e re keep 1 _ _).plays.keepsClaims (fun _ => ?_) ?_)
  · rw [State.raiseDrops_eq]; rfl
  · rw [State.raiseDrops_eq]
theorem State.dropWaiter_keepsClaims (e : Elem) (r : Robot) (re : Reason) (k : Nat) (s : State) :
    s.KeepsClaims (s.dropWaiter e r re k) :=
  (State.setClaim_keepsClaims (.drop (s.claim e) fun w => decide (w ≠ r))).trans (State.raise_keepsClaims _ _ _ _ _ _)
theorem State.dropAll_keepsClaims (e : Elem) (re : Reason) (s : State) : s.KeepsClaims (s.dropAll e re) :=
  State.dropWaiters_keepsClaims e re _ s
/-- The claim record after a whole list is dropped. -/
theorem State.dropAll_claim (e : Elem) (re : Reason) (s : State) :
    (s.dropAll e re).claim e = { s.claim e with waiters := [] } := by
  simp [State.claim, State.dropAll, State.dropWaiters_element]
@[simp] theorem State.setTimer_claim (e e' : Elem) (t : ClaimTimer) (s : State) :
    (s.setTimer e t).claim e' = s.claim e' := State.modifyElement_claims rfl e'
theorem State.enterBlocked_keepsClaims (e : Elem) (b : BlockCause) (s : State) : s.KeepsClaims (s.enterBlocked e b) :=
  (((State.dropAll_keepsClaims e _ s).trans (State.setTimer_keepsClaims e _ _)).trans
    (State.setClaim_keepsClaims (.block (by rw [State.setTimer_claim, State.dropAll_claim]) b))).trans
    (State.raise_keepsClaims _ _ _ _ _ _)
theorem State.removeHolder_claim (e : Elem) (r : Robot) (c : Cause) (s : State) :
    (s.removeHolder e r c).claim e = ⟨.returning, (s.robot r).alliance, (s.claim e).waiters⟩ := by
  rw [State.claim, State.removeHolder_element, Element.claimEnded_claim]
theorem State.removeHolder_keepsClaims {e : Elem} {s : State} (hb : (s.claim e).state.isBlocked = false) (r : Robot)
    (c : Cause) : s.KeepsClaims (s.removeHolder e r c) :=
  ((State.setClaim_keepsClaims (.leave hb _)).trans (State.raise_keepsClaims _ _ _ _ _ _)).trans
    (State.modifyElement_keepsClaims _ (Element.claimEnded_samePlan _) (Element.claimEnded_claim _))
theorem State.takeBlock_keepsClaims (e : Elem) (b : BlockCause) (s : State) : s.KeepsClaims (s.takeBlock e b) := by
  unfold State.takeBlock
  split
  · rename_i r hr
    exact (State.removeHolder_keepsClaims (by rw [hr]; rfl) r _).trans (State.enterBlocked_keepsClaims e b _)
  · exact State.enterBlocked_keepsClaims e b s
  · exact State.enterBlocked_keepsClaims e b s
  · exact State.enterBlocked_keepsClaims e b s
  · rename_i b' hb
    exact State.setClaim_keepsClaims (.reblock (by rw [hb]; rfl) b)

/-- The use CLAIM is the use of a live phase (R30). -/
theorem State.live_of_use {s : State} {e : Elem} (h : (s.activeProfile e).use = .claim) :
    s.clock.currentLive.isSome = true := by
  cases hl : s.clock.currentLive with
  | some ph => rfl
  | none => simp [State.activeProfile, Element.activeProfile, hl, Profile.closed] at h
theorem State.grantWaiter_keepsClaims {e : Elem} {r : Robot} {s : State} (hb : (s.claim e).state.isBlocked = false)
    (hu : (s.activeProfile e).use = .claim) (hr : r ∈ (s.claim e).waiters) : s.KeepsClaims (s.grantWaiter e r) :=
  (((State.setClaim_keepsClaims (.grant hb (State.live_of_use hu) hr)).trans (State.setTimer_keepsClaims e _ _)).trans
    (State.raise_keepsClaims _ _ _ _ _ _)).trans
    (State.modifyElement_keepsClaims _ (Element.granted_samePlan _ _) (Element.granted_claim _ _))
theorem State.nextHolder_eq_none {s : State} {e : Elem} : s.nextHolder e = none ↔ (s.claim e).waiters = [] := by
  unfold State.nextHolder
  split <;> simp_all
/-- The end of RETURNING, on an element that is not BLOCKED (R75, R77). -/
theorem State.settleReturn_keepsClaims {e : Elem} {s : State} (hb : (s.claim e).state.isBlocked = false) :
    s.KeepsClaims (s.settleReturn e) := by
  unfold State.settleReturn
  split
  · rename_i hu
    split
    · rename_i hw
      exact (State.setClaim_keepsClaims (d := { s.claim e with state := .free })
        (.vacate rfl (State.nextHolder_eq_none.mp hw) (fun _ => hu) nofun (by simp [hb]))).trans
        (State.setTimer_keepsClaims e _ _)
    · rename_i r hr
      exact State.grantWaiter_keepsClaims hb hu (State.nextHolder_mem hr)
  · rename_i hu
    have drops := State.dropAll_keepsClaims e .phase s
    have dropped := State.dropAll_claim e .phase s
    refine (drops.trans (State.setClaim_keepsClaims (d := { (s.dropAll e .phase).claim e with state := .inert })
      (.vacate rfl (by rw [dropped]) nofun (fun _ => ?_) ?_))).trans
      (State.setTimer_keepsClaims e _ _)
    · rwa [drops.plays.activeProfile]
    · simp [dropped, hb]
theorem Element.returning_of_returnDue {x : Element} (h : x.returnDue = true) : x.claim.state = .returning := by
  simp only [Element.returnDue, Bool.and_eq_true, decide_eq_true_eq] at h
  exact h.1
theorem State.not_blocked_of_returning {s : State} {e : Elem} (h : (s.claim e).state = .returning) :
    (s.claim e).state.isBlocked = false := by rw [h]; rfl
theorem State.finishReturn_keepsClaims (e : Elem) (s : State) : s.KeepsClaims (s.finishReturn e) := by
  unfold State.finishReturn
  split
  · exact State.settleReturn_keepsClaims (State.not_blocked_of_returning (Element.returning_of_returnDue ‹_›))
  · exact .refl s

/-! ## The engines (chapter 5) -/

theorem State.jam_keepsClaims (e : Elem) (s : State) : s.KeepsClaims (s.jam e) :=
  (State.modifyElement_keepsClaims s (Element.halted_samePlan _) rfl).trans (State.takeBlock_keepsClaims e _ _)
theorem State.startMotion_keepsClaims (e : Elem) (d : Direction) (q : Purpose) (s : State) :
    s.KeepsClaims (s.startMotion e d q) := by
  unfold State.startMotion
  dsimp only
  split
  · exact State.jam_keepsClaims e s
  · split
    · exact State.modifyElement_keepsClaims s (Element.arrive_samePlan _ _) rfl
    · exact State.modifyElement_keepsClaims s (Element.drive_samePlan _ _ _) rfl
theorem State.beginReturn_keepsClaims (e : Elem) (s : State) : s.KeepsClaims (s.beginReturn e) := by
  unfold State.beginReturn
  split
  case h_2 | h_3 | h_4 => exact State.startMotion_keepsClaims _ _ _ s
  all_goals exact State.modifyElement_keepsClaims s ⟨rfl, rfl, rfl, rfl, rfl, rfl⟩ rfl
theorem State.enterReturning_keepsClaims {e : Elem} {s : State} (hb : (s.claim e).state.isBlocked = false)
    (t : ClaimTimer) : s.KeepsClaims (s.enterReturning e t) := by
  have leaves : s.KeepsClaims (s.setClaimState e .returning) := State.setClaim_keepsClaims (.leave hb _)
  unfold State.enterReturning
  dsimp only
  split
  · exact (leaves.trans (State.setTimer_keepsClaims e _ _)).trans (State.beginReturn_keepsClaims e _)
  all_goals exact leaves.trans (State.setTimer_keepsClaims e _ _)
theorem State.leaveHolder_keepsClaims {e : Elem} {s : State} (hb : (s.claim e).state.isBlocked = false) (r : Robot)
    (c : Cause) : s.KeepsClaims (s.leaveHolder e r c) :=
  (State.removeHolder_keepsClaims hb r c).trans
    (State.enterReturning_keepsClaims (by rw [State.removeHolder_claim]; rfl) _)
theorem State.not_blocked_of_held {s : State} {e : Elem} {r : Robot} (h : (s.claim e).state = .held r) :
    (s.claim e).state.isBlocked = false := by rw [h]; rfl
theorem State.endClaim_keepsClaims (e : Elem) (c : Cause) (s : State) : s.KeepsClaims (s.endClaim e c) := by
  unfold State.endClaim
  split
  · exact (State.leaveHolder_keepsClaims (State.not_blocked_of_held ‹_›) _ c).trans (State.finishReturn_keepsClaims e _)
  all_goals exact .refl s
theorem State.unseat_keepsClaims (r : Robot) (c : Cause) (s before : State) : s.KeepsClaims (s.unseat r c before) := by
  unfold State.unseat
  split
  · exact State.leaveHolder_keepsClaims (State.not_blocked_of_held (State.seats_of_heldBy ‹_›)) r c
  · split
    · exact State.dropWaiter_keepsClaims _ r _ _ s
    · exact .refl s
theorem State.removeRobot_keepsClaims (r : Robot) (c : Cause) (s : State) : s.KeepsClaims (s.removeRobot r c) := by
  unfold State.removeRobot
  split
  · exact (State.unseat_keepsClaims r c s s).trans (State.finishReturn_keepsClaims _ _)
  · exact State.unseat_keepsClaims r c s s
theorem Element.startFeed_claim (p : Profile) (x : Element) : (x.startFeed p).claim = x.claim := by
  unfold Element.startFeed
  dsimp only
  split <;> rfl
theorem Element.stopFeed_claim (x : Element) : x.stopFeed.claim = x.claim := by
  unfold Element.stopFeed
  split <;> rfl
theorem Element.openFeed_claim (p : Profile) (x : Element) : (x.openFeed p).claim = x.claim := by
  unfold Element.openFeed
  split
  · rw [Element.startFeed_claim, Element.stopFeed_claim]
  · rw [Element.startFeed_claim, Element.stopFeed_claim]
  · split
    · rfl
    · exact Element.startFeed_claim _ _
theorem Element.endTest_claim (x : Element) : x.endTest.claim = x.claim := by
  unfold Element.endTest
  split <;> rfl
theorem Element.fieldStop_claim (x : Element) : x.fieldStop.claim = x.claim := by
  unfold Element.fieldStop
  split <;> rfl
theorem State.startPendingFeed_keepsClaims (e : Elem) (s : State) : s.KeepsClaims (s.startPendingFeed e) := by
  unfold State.startPendingFeed
  split
  · exact State.modifyElement_keepsClaims s (Element.startFeed_samePlan _ _) (Element.startFeed_claim _ _)
  · exact State.modifyElement_keepsClaims s ⟨rfl, rfl, rfl, rfl, rfl, rfl⟩ rfl
theorem State.feedAtBoundary_keepsClaims (e : Elem) (s : State) : s.KeepsClaims (s.feedAtBoundary e) := by
  unfold State.feedAtBoundary
  split
  · split
    · exact State.modifyElement_keepsClaims s (Element.openFeed_samePlan _ _) (Element.openFeed_claim _ _)
    · exact State.modifyElement_keepsClaims s (Element.stopFeed_samePlan _) (Element.stopFeed_claim _)
  · exact .refl s
theorem State.takeArrival_keepsClaims (e : Elem) (s : State) : s.KeepsClaims (s.takeArrival e) := by
  unfold State.takeArrival
  split
  · exact (State.modifyElement_keepsClaims s (Element.arrive_samePlan _ _) rfl).trans (State.finishReturn_keepsClaims e _)
  · exact .refl s
theorem State.stopElement_keepsClaims (e : Elem) (s : State) : s.KeepsClaims (s.stopElement e) := by
  have h := State.modifyElement_keepsClaims (e := e) s (Element.endTest_samePlan _) (Element.endTest_claim _)
  unfold State.stopElement
  dsimp only
  split
  · exact h
  · exact (h.trans (State.modifyElement_keepsClaims _ (Element.fieldStop_samePlan _) (Element.fieldStop_claim _))).trans
      (State.takeBlock_keepsClaims e _ _)
theorem State.brakeEnd_keepsClaims (e : Elem) (s : State) : s.KeepsClaims (s.brakeEnd e) := by
  unfold State.brakeEnd
  split
  · exact (State.startMotion_keepsClaims _ _ _ s).trans (State.finishReturn_keepsClaims e _)
  all_goals exact .refl s
theorem State.shotExpiry_keepsClaims (e : Elem) (s : State) : s.KeepsClaims (s.shotExpiry e) := by
  have h := State.modifyElement_keepsClaims (e := e) (f := fun x => { x with pulse := x.pulse.shotEnd, test := none }) s
    ⟨rfl, rfl, rfl, rfl, rfl, rfl⟩ rfl
  unfold State.shotExpiry
  dsimp only
  split
  · exact h
  · split
    · split
      · exact h.trans (State.jam_keepsClaims e _)
      · exact h
    · split
      · exact (h.trans (State.modifyElement_keepsClaims _ ⟨rfl, rfl, rfl, rfl, rfl, rfl⟩ rfl)).trans
          (State.endClaim_keepsClaims e _ _)
      · exact h
    all_goals exact h
theorem State.waveChange_keepsClaims (e : Elem) (s : State) : s.KeepsClaims (s.waveChange e) :=
  State.modifyElement_keepsClaims s ⟨rfl, rfl, rfl, rfl, rfl, rfl⟩ rfl
theorem State.strobeExpiry_keepsClaims (e : Elem) (s : State) : s.KeepsClaims (s.strobeExpiry e) := by
  have h := State.modifyElement_keepsClaims (e := e) (f := fun x => { x with pulse := x.pulse.strobeFire }) s
    ⟨rfl, rfl, rfl, rfl, rfl, rfl⟩ rfl
  unfold State.strobeExpiry
  dsimp only
  split
  · exact h.trans (State.brakeEnd_keepsClaims e _)
  · exact h
theorem State.timerExpiry_keepsClaims (e : Elem) (s : State) : s.KeepsClaims (s.timerExpiry e) := by
  have h := State.setTimer_keepsClaims e .stopped s
  unfold State.timerExpiry
  dsimp only
  split
  · exact h.trans (State.endClaim_keepsClaims e _ _)
  · exact h.trans (State.finishReturn_keepsClaims e _)
  all_goals exact h
theorem State.takeReturnEnd_keepsClaims {e : Elem} {s : State} (hd : (s.element e).returnEnds = true) :
    s.KeepsClaims (s.takeReturnEnd e) := by
  unfold State.takeReturnEnd
  dsimp only
  split
  · exact State.takeArrival_keepsClaims e s
  · split
    · exact State.timerExpiry_keepsClaims e s
    · simp only [Element.returnEnds, Bool.and_eq_true, decide_eq_true_eq] at hd
      exact State.settleReturn_keepsClaims (State.not_blocked_of_returning hd.1)
theorem State.homeGate_keepsClaims (e : Elem) (s : State) : s.KeepsClaims (s.homeGate e) := by
  rw [State.homeGate_eq]
  split
  · exact State.startMotion_keepsClaims _ _ _ s
  · exact .refl s

/-! ## Credits (R106, R109, R149) -/

theorem State.addScore_keepsClaims (a : Alliance) (x : Int) (s : State) : s.KeepsClaims (s.addScore a x) := by
  refine (State.addScore_plays a x s).keepsClaims (fun _ => ?_) ?_
  · rw [State.addScore_eq]; rfl
  · rw [State.addScore_eq]
theorem State.credit_keepsClaims (a : Alliance) (w : Nat) (s : State) : s.KeepsClaims (s.credit a w) := by
  unfold State.credit
  split
  · exact State.addScore_keepsClaims _ _ s
  · exact .refl s
theorem State.creditPiece_keepsClaims (e : Elem) (s : State) : s.KeepsClaims (s.creditPiece e) := by
  unfold State.creditPiece
  dsimp only
  repeat' split
  all_goals first
    | exact State.credit_keepsClaims _ _ s
    | exact State.modifyElement_keepsClaims s ⟨rfl, rfl, rfl, rfl, rfl, rfl⟩ rfl
    | exact .refl s
theorem State.lightLamp_keepsClaims (e : Elem) (s : State) : s.KeepsClaims (s.lightLamp e) := by
  unfold State.lightLamp
  dsimp only
  split
  · exact State.modifyElement_keepsClaims s ⟨rfl, rfl, rfl, rfl, rfl, rfl⟩ rfl
  · exact .refl s
theorem State.takePiece_keepsClaims (e : Elem) (s : State) : s.KeepsClaims (s.takePiece e) := by
  have h := State.modifyElement_keepsClaims (e := e) (f := fun x => { x with pieces := countUp x.pieces }) s
    ⟨rfl, rfl, rfl, rfl, rfl, rfl⟩ rfl
  unfold State.takePiece
  split
  · exact h
  · exact (h.trans (State.creditPiece_keepsClaims e _)).trans (State.lightLamp_keepsClaims e _)
  all_goals exact .refl s
theorem State.rateExpiry_keepsClaims (e : Elem) (s : State) : s.KeepsClaims (s.rateExpiry e) := by
  refine (State.modifyElement_keepsClaims (e := e) (f := fun x => { x with pulse := x.pulse.rateReload }) s
    ⟨rfl, rfl, rfl, rfl, rfl, rfl⟩ rfl).trans ?_
  change State.KeepsClaims _ (State.creditInterval e _)
  unfold State.creditInterval
  split
  · split
    · exact State.credit_keepsClaims _ _ _
    · exact .refl _
  · exact .refl _
theorem State.takePulse_keepsClaims (e : Elem) (s : State) : s.KeepsClaims (s.takePulse e) := by
  unfold State.takePulse
  dsimp only
  split
  · exact State.shotExpiry_keepsClaims e s
  · split
    · exact State.rateExpiry_keepsClaims e s
    · split
      · exact State.waveChange_keepsClaims e s
      · split
        · exact State.strobeExpiry_keepsClaims e s
        · exact .refl s

/-! ## Boundaries (R83, R84) -/

theorem State.announceEnables_keepsClaims (s before : State) : s.KeepsClaims (s.announceEnables before) := by
  refine State.forEach_keepsClaims (fun r s => ?_) s
  split
  · exact State.raiseRobot_keepsClaims _ r s
  · exact .refl s

end Sys2Proof.Machine

namespace Sys2Proof.Machine

/-! # Boundaries settle the claim table (R83, R84) -/

/-- A FREE or INERT element becomes the one or the other as the active use says (R83, R84). -/
theorem ClaimRecord.Becomes.reopen {live : Bool} {use : Use} {c : ClaimRecord} {st : ClaimState}
    (hc : c.state = .free ∨ c.state = .inert) (hh : st.holder.isSome = false) (hf : st = .free → use = .claim)
    (hi : st = .inert → use ≠ .claim) : c.Becomes live use { c with state := st } where
  places := fun r => by
    have : st ≠ .held r := fun k => by simp [k, ClaimState.holder] at hh
    simp [ClaimRecord.placesOf, this]
  fits := fun h => by
    have hw : c.waiters = [] := by rcases hc with k | k <;> exact h.no_waiters (by rw [k]; rfl) (by rw [k]; nofun)
    exact ⟨.vacant hw, fun k => k.elim (absurd hw) fun k => by simp [hh] at k, hf, hi⟩
  blocked := fun k => by rcases hc with h | h <;> simp [h, ClaimState.isBlocked] at k

/-- A formed record fits a live phase, where the active use says so of a FREE or INERT element. -/
theorem ClaimRecord.Formed.fits {use : Use} {c : ClaimRecord} (h : c.Formed) (hf : c.state = .free → use = .claim)
    (hi : c.state = .inert → use ≠ .claim) : c.Fits true use := ⟨h, fun _ => rfl, hf, hi⟩
/-- A record without holder, waiters and FREE state fits a time without live phase. -/
theorem ClaimRecord.Formed.fits_closed {live : Bool} {c : ClaimRecord} (hw : c.waiters = [])
    (hh : c.state.holder.isSome = false) (hf : c.state ≠ .free) : c.Fits live .closed :=
  ⟨.vacant hw, fun k => k.elim (absurd hw) fun k => by simp [hh] at k, fun k => absurd k hf, nofun⟩

/-- In a live match state a live phase is current, and outside a timed phase none (R1, R30). -/
theorem Clock.currentLive_of_isLive {c : Clock} (h : c.state.isLive = true) : c.currentLive.isSome = true := by
  rcases MatchState.isLive_iff.mp h with k | k | k <;>
    simp [Clock.currentLive, Clock.currentPhase, k, MatchState.phase, Phase.live]
theorem Clock.currentLive_of_stop {c : Clock} (h : c.state = .brk ∨ c.state = .finished) : c.currentLive = none := by
  rcases h with k | k <;> simp [Clock.currentLive, Clock.currentPhase, k, MatchState.phase, Phase.live]
theorem State.activeProfile_closed {s : State} (h : s.clock.currentLive = none) (e : Elem) :
    s.activeProfile e = .closed := by simp [State.activeProfile, Element.activeProfile, h]

/-! ## One element -/

theorem State.claimAtLive_keepsClaims (e : Elem) (s : State) : s.KeepsClaims (s.claimAtLive e) := by
  have forgets : s.KeepsClaims (s.setClaim e { s.claim e with lastAlliance := none }) :=
    State.setClaim_keepsClaims (.forget (s.claim e) none)
  refine forgets.trans ?_
  unfold State.claimAtLive
  dsimp only
  split
  · exact .refl _
  · split
    · exact (State.setTimer_keepsClaims e _ _).trans (State.dropWaiters_keepsClaims e _ _ _)
    · exact ((State.leaveHolder_keepsClaims (State.not_blocked_of_held ‹_›) _ _).trans
        (State.dropWaiters_keepsClaims e _ _ _)).trans (State.finishReturn_keepsClaims e _)
  · exact State.dropWaiters_keepsClaims e _ _ _
  · refine State.setClaim_keepsClaims (.reopen (.inl ‹_›) ?_ ?_ ?_) <;> split <;> simp [*, ClaimState.holder]
  · refine State.setClaim_keepsClaims (.reopen (.inr ‹_›) ?_ ?_ ?_) <;> split <;> simp [*, ClaimState.holder]

/-- At a boundary into a live phase every formed record comes to fit it, whatever use the element had before. -/
theorem State.claimAtLive_fits {e : Elem} {s : State} (hl : s.clock.state.isLive = true) (h : (s.claim e).Formed) :
    ((s.claimAtLive e).claim e).Fits s.clock.currentLive.isSome (s.activeProfile e).use := by
  by_cases hc : (s.claim e).state = .free ∨ (s.claim e).state = .inert
  · have hw : (s.claim e).waiters = [] := by
      rcases hc with k | k <;> exact h.no_waiters (by rw [k]; rfl) (by rw [k]; nofun)
    have opens : (s.claimAtLive e).claim e =
        ⟨if (s.activeProfile e).use = .claim then .free else .inert, none, (s.claim e).waiters⟩ := by
      have profile := (State.setClaim_arbitrates e { s.claim e with lastAlliance := none } s).plays.activeProfile e
      rw [← profile]
      rcases hc with k | k <;>
        simp [State.claimAtLive, State.setClaimState, State.setClaim_claim, k]
    rw [opens]
    refine ⟨.vacant hw, fun k => k.elim (absurd hw) fun k => ?_, fun k => ?_, fun k => ?_⟩ <;>
      by_cases hu : (s.activeProfile e).use = .claim <;> simp_all [ClaimState.holder]
  · rw [not_or] at hc
    refine ((State.claimAtLive_keepsClaims e s).claims e).fits ?_
    rw [Clock.currentLive_of_isLive hl]
    exact h.fits (fun k => absurd k hc.1) fun k => absurd k hc.2

theorem State.claimAtStop_keepsClaims (e : Elem) {s : State} (hl : s.clock.currentLive = none) :
    s.KeepsClaims (s.claimAtStop e) := by
  unfold State.claimAtStop
  split
  · exact .refl s
  · exact .refl s
  · exact ((State.leaveHolder_keepsClaims (State.not_blocked_of_held ‹_›) _ _).trans
      (State.dropAll_keepsClaims e _ _)).trans (State.finishReturn_keepsClaims e _)
  · exact State.dropAll_keepsClaims e _ s
  · refine State.setClaim_keepsClaims (.reopen (.inl ‹_›) rfl nofun fun _ => ?_)
    rw [State.activeProfile_closed hl]
    nofun

/-- A claim that ends leaves its element RETURNING, or BLOCKED where a gate jams as its return begins. -/
theorem State.leaveHolder_state (e : Elem) (r : Robot) (c : Cause) (s : State) :
    ((s.leaveHolder e r c).claim e).state = .returning ∨ ((s.leaveHolder e r c).claim e).state = .blocked .jam := by
  have vacated : ∀ t, (((s.vacate e r c).setTimer e t).claim e).state = .returning := fun t => by
    rw [State.setTimer_claim, State.claim, State.vacate_element, Element.claimEnded_claim]
  rw [State.leaveHolder_eq]
  split
  · rcases State.beginReturn_claim (vacated .stopped) with k | ⟨-, last, k⟩ <;> rw [k]
    · exact .inl (vacated _)
    · exact .inr rfl
  · exact .inl (vacated _)

/-- At a boundary into BREAK or FINISHED every formed record comes to fit it. -/
theorem State.claimAtStop_fits {e : Elem} {s : State} (hl : s.clock.currentLive = none) (h : (s.claim e).Formed) :
    ((s.claimAtStop e).claim e).Fits s.clock.currentLive.isSome (s.activeProfile e).use := by
  rw [State.activeProfile_closed hl]
  unfold State.claimAtStop
  split
  · rename_i b k
    exact ClaimRecord.Formed.fits_closed (h.no_waiters (by rw [k]; rfl) (by rw [k]; nofun)) (by rw [k]; rfl)
      (by rw [k]; nofun)
  · rename_i k
    exact ClaimRecord.Formed.fits_closed (h.no_waiters (by rw [k]; rfl) (by rw [k]; nofun)) (by rw [k]; rfl)
      (by rw [k]; nofun)
  · rename_i r k
    have drops := (State.leaveHolder_arbitrates e r .phase s).trans (State.dropAll_arbitrates e .phase _)
    have fits := ((State.finishReturn_keepsClaims e ((s.leaveHolder e r .phase).dropAll e .phase)).claims e).fits
    rw [drops.plays.same.clock, drops.plays.activeProfile, State.activeProfile_closed hl] at fits
    refine fits (ClaimRecord.Formed.fits_closed ?_ ?_ ?_) <;> rw [State.dropAll_claim]
    all_goals rcases State.leaveHolder_state e r .phase s with k | k <;> simp [k, ClaimState.holder]
  · rename_i k
    refine ClaimRecord.Formed.fits_closed ?_ ?_ ?_ <;> rw [State.dropAll_claim]
    all_goals simp [k, ClaimState.holder]
  · rename_i k
    have hw := h.no_waiters (by rw [k]; rfl) (by rw [k]; nofun)
    refine ClaimRecord.Formed.fits_closed ?_ ?_ ?_ <;> simp [State.setClaimState, State.setClaim_claim, hw, ClaimState.holder]

/-! ## The whole table -/

section
variable {s : State} (hm : s.clock.state.isLive = true ∨ s.clock.state = .brk ∨ s.clock.state = .finished)
include hm

theorem State.claimsAtBoundary_keepsClaims : s.KeepsClaims s.claimsAtBoundary := by
  unfold State.claimsAtBoundary
  split
  · exact State.forEach_keepsClaims State.claimAtLive_keepsClaims s
  · rename_i hl
    refine State.forEach_rel (fun a b => a.clock.currentLive = none → a.KeepsClaims b) (fun a _ => .refl a)
      (fun h k hn => (h hn).trans (k ?_)) (fun e a => State.claimAtStop_keepsClaims e) s
      (Clock.currentLive_of_stop (hm.resolve_left hl))
    rw [(h hn).plays.same.clock, hn]
/-- A boundary makes every formed record fit the phase entered. -/
theorem State.claimsAtBoundary_fits (h : ∀ e, (s.claim e).Formed) (e : Elem) :
    (s.claimsAtBoundary.claim e).Fits s.clock.currentLive.isSome (s.activeProfile e).use := by
  unfold State.claimsAtBoundary
  split
  · rename_i hl
    obtain ⟨u, hu, he, -, ht⟩ := (State.forEach_local State.Arbitrates .refl .trans State.claimAtLive_arbitrates
      State.claimAtLive_local allElems_nodup s e).1 (mem_allElems e)
    rw [State.claim, ht, ← hu.plays.same.clock, ← hu.plays.activeProfile]
    refine State.claimAtLive_fits (by rw [hu.plays.same.clock]; exact hl) ?_
    rw [State.claim, he]
    exact h e
  · rename_i hl
    obtain ⟨u, hu, he, -, ht⟩ := (State.forEach_local State.Arbitrates .refl .trans State.claimAtStop_arbitrates
      State.claimAtStop_local allElems_nodup s e).1 (mem_allElems e)
    rw [State.claim, ht, ← hu.plays.same.clock, ← hu.plays.activeProfile]
    refine State.claimAtStop_fits ?_ ?_
    · rw [hu.plays.same.clock]
      exact Clock.currentLive_of_stop (hm.resolve_left hl)
    · rw [State.claim, he]
      exact h e

end

end Sys2Proof.Machine

namespace Sys2Proof.Machine

/-! # The laws of the claim table, kept together (R61, R62, R63, R71, R77, R84, R86) -/

/-- The laws of `State.ClaimsOk`, record by record. -/
structure State.InTable (s : State) : Prop where
  records : ∀ e, (s.claim e).Fits s.clock.currentLive.isSome (s.activeProfile e).use
  single : ∀ r, s.places r ≤ 1
  mirrors : s.Mirrored

theorem State.claimsOk_iff {s : State} : s.ClaimsOk ↔ s.InTable := by
  constructor
  · rintro ⟨records, robots⟩
    refine ⟨fun e => ?_, fun r => (robots r).1, fun r => (robots r).2⟩
    obtain ⟨capacity, waiting, live, free, inert⟩ := records e
    exact ⟨⟨capacity, waiting⟩, live, free, inert⟩
  · rintro ⟨records, single, mirrors⟩
    refine ⟨fun e => ?_, fun r => ⟨single r, mirrors r⟩⟩
    obtain ⟨⟨capacity, waiting⟩, live, free, inert⟩ := records e
    exact ⟨capacity, waiting, live, free, inert⟩

theorem State.InTable.oneSeat {s : State} (h : s.InTable) : s.OneSeat := State.oneSeat h.single
/-- Without a live phase nobody has a place (R84). -/
theorem State.InTable.vacant {s : State} (h : s.InTable) (hl : s.clock.currentLive = none) (r : Robot) :
    s.places r = 0 := by
  refine State.places_eq_zero.mpr fun e k => ?_
  have dead := mt (h.records e).live (by rw [hl]; nofun)
  rcases k with k | k
  · exact dead (.inr (by rw [k]; rfl))
  · exact dead (.inl (List.ne_nil_of_mem k))

/-- A robot that may have a place: bound, CLEAR and on a LIVE link (R71, R77). -/
def State.Seated (s : State) (r : Robot) : Prop :=
  (s.robot r).bound.isSome = true ∧ (s.robot r).standing = .clear ∧ s.robotLink r = some .live

theorem State.Seated.congr {s t : State} {r : Robot} (h : s.Seated r) (hb : (t.robot r).bound = (s.robot r).bound)
    (hs : (t.robot r).standing = (s.robot r).standing) (hl : ∀ q, (t.port q).link = (s.port q).link) : t.Seated r := by
  have link : t.robotLink r = s.robotLink r := by simp only [State.robotLink, hb, hl]
  rw [State.Seated, hb, hs, link]
  exact h
theorem State.Plays.seated {s t : State} (k : s.Plays t) {r : Robot} (h : s.Seated r) : t.Seated r :=
  h.congr (congrArg RobotRecord.bound (k.rosters r) :) (congrArg RobotRecord.standing (k.rosters r) :)
    (State.SamePorts.link k.ports)

/-- What a change keeps of the laws: those of the claim table, with them those of its seats, and those of the field stops. -/
structure State.KeepsLaws (s t : State) : Prop where
  table : s.InTable → t.InTable
  seats : s.InTable → (∀ r, 0 < s.places r → s.Seated r) → ∀ r, 0 < t.places r → t.Seated r
  stops : s.FieldStopOk → t.FieldStopOk

theorem State.KeepsLaws.refl (s : State) : s.KeepsLaws s := ⟨id, fun _ => id, id⟩
theorem State.KeepsLaws.trans {a b c : State} (h : a.KeepsLaws b) (k : b.KeepsLaws c) : a.KeepsLaws c :=
  ⟨fun t => k.table (h.table t), fun t u => k.seats (h.table t) (h.seats t u), fun u => k.stops (h.stops u)⟩
theorem State.forEach_keepsLaws {ι : Type} {xs : List ι} {act : ι → State → State}
    (h : ∀ i (s : State), s.KeepsLaws (act i s)) (s : State) : s.KeepsLaws (s.forEach xs act) :=
  State.forEach_rel State.KeepsLaws .refl .trans h s
theorem State.takeEach_keepsLaws {ι : Type} {xs : List ι} {due : State → ι → Bool} {act : ι → State → State}
    (h : ∀ i (s : State), due s i = true → s.KeepsLaws (act i s)) (s : State) : s.KeepsLaws (s.takeEach xs due act) := by
  refine State.forEach_keepsLaws (fun i s => ?_) s
  split
  · exact h i s ‹_›
  · exact .refl s

/-- Where every record gives no more places, the table gives no more. -/
theorem State.places_le {s t : State} {r : Robot} (h : ∀ e, (t.claim e).placesOf r ≤ (s.claim e).placesOf r) :
    t.places r ≤ s.places r := by
  rw [State.places_eq_sum, State.places_eq_sum]
  exact Finset.sum_le_sum fun e _ => h e
/-- Where headers are kept, no line has come to be asserted and BLOCKED elements stay so, the law of field stops is kept. -/
theorem State.fieldStopOk_of {s t : State} (h : s.FieldStopOk)
    (headers : ∀ e, (t.element e).header = (s.element e).header)
    (asserted : ∀ g, (t.stop g).asserted = true → (s.stop g).asserted = true)
    (blocked : ∀ e, (s.claim e).state.isBlocked = true → (t.claim e).state.isBlocked = true) : t.FieldStopOk :=
  fun e ha hk => blocked e (by
    rw [headers] at ha hk
    exact h e (asserted _ ha) hk)

/-- What arbiter and engines do keeps the laws. -/
theorem State.KeepsClaims.keepsLaws {s t : State} (k : s.KeepsClaims t) : s.KeepsLaws t where
  table := fun h => by
    refine ⟨fun e => ?_, fun r => (State.places_le fun e => (k.claims e).places r).trans (h.single r),
      k.mirrors h.mirrors⟩
    rw [k.plays.same.clock, k.plays.activeProfile]
    exact (k.claims e).fits (h.records e)
  seats := fun _ h r hr => k.plays.seated (h r (hr.trans_le (State.places_le fun e => (k.claims e).places r)))
  stops := fun h => State.fieldStopOk_of h (fun e => (k.plays.plans e).header)
    (fun g => by rw [State.stop, k.plays.same.stops]; exact id) fun e => (k.claims e).blocked

/-! ## Writes beside the claim table -/

/-- The claim table, its mirrors and what its laws read of clock and plan are the same. -/
structure State.SameTable (s t : State) : Prop where
  claims : ∀ e, t.claim e = s.claim e
  mirrors : ∀ r, (t.robot r).held = (s.robot r).held ∧ (t.robot r).waiting = (s.robot r).waiting
  live : t.clock.currentLive = s.clock.currentLive
  uses : ∀ e, (t.activeProfile e).use = (s.activeProfile e).use

section
variable {s t : State} (k : s.SameTable t)
include k

theorem State.SameTable.places (r : Robot) : t.places r = s.places r := by
  simp only [State.places, k.claims]
theorem State.SameTable.inTable (h : s.InTable) : t.InTable where
  records := fun e => by
    rw [k.claims, k.live, k.uses]
    exact h.records e
  single := fun r => (k.places r).trans_le (h.single r)
  mirrors := h.mirrors.of_same k.claims k.mirrors
theorem State.SameTable.stops (h : s.FieldStopOk) (headers : ∀ e, (t.element e).header = (s.element e).header)
    (asserted : ∀ g, (t.stop g).asserted = true → (s.stop g).asserted = true) : t.FieldStopOk :=
  State.fieldStopOk_of h headers asserted fun e => by rw [k.claims]; exact id
theorem State.SameTable.keepsLaws (seated : ∀ r, s.Seated r → t.Seated r)
    (headers : ∀ e, (t.element e).header = (s.element e).header)
    (asserted : ∀ g, (t.stop g).asserted = true → (s.stop g).asserted = true) : s.KeepsLaws t :=
  ⟨k.inTable, fun _ h r hr => seated r (h r (k.places r ▸ hr)), fun h => k.stops h headers asserted⟩
/-- Without a live phase the law of the seats speaks of nobody. -/
theorem State.SameTable.keepsLaws_of_vacant (hl : s.clock.currentLive = none) (stops : s.FieldStopOk → t.FieldStopOk) :
    s.KeepsLaws t :=
  ⟨k.inTable, fun h _ r hr => absurd hr (by rw [k.places, h.vacant hl]; decide), stops⟩

end

/-- A write of clock, ports and other records that keeps elements, robots, field stops, links and the current live phase. -/
theorem State.keepsLaws_of_same {s t : State} (he : t.elements = s.elements) (hr : t.robots = s.robots)
    (hs : t.stops = s.stops) (hc : t.clock.currentLive = s.clock.currentLive)
    (hl : ∀ q, (t.port q).link = (s.port q).link) : s.KeepsLaws t := by
  have element : ∀ e, t.element e = s.element e := fun e => by rw [State.element, he]; rfl
  have robot : ∀ r, t.robot r = s.robot r := fun r => by rw [State.robot, hr]; rfl
  refine State.SameTable.keepsLaws ⟨fun e => ?_, fun r => ?_, hc, fun e => ?_⟩ (fun r h => h.congr ?_ ?_ hl) (fun e => ?_)
    fun g => ?_
  · rw [State.claim, element]; rfl
  · rw [robot]; exact ⟨rfl, rfl⟩
  · simp only [State.activeProfile, Element.activeProfile, hc, element]
  · rw [robot]
  · rw [robot]
  · rw [element]
  · rw [State.stop, hs]; exact id
theorem State.modifyPort_keepsLaws {p : Port} {f : PortRecord → PortRecord} (s : State)
    (h : (f (s.port p)).link = (s.port p).link) : s.KeepsLaws (s.modifyPort p f) := by
  refine State.keepsLaws_of_same rfl rfl rfl rfl fun q => ?_
  rw [State.port_modifyPort]
  split
  · rename_i hq; subst hq; exact h
  · rfl
theorem State.setFrame_keepsLaws (p : Port) (f : Frame) (s : State) : s.KeepsLaws (s.setFrame p f) :=
  State.modifyPort_keepsLaws s rfl
theorem State.answered_keepsLaws (p : Port) (bytes : List Byte) (s : State) : s.KeepsLaws (s.answered p bytes) :=
  State.modifyPort_keepsLaws s rfl
theorem State.transition_keepsLaws (reason : Reason) {c : Clock} {s : State}
    (hc : c.currentLive = s.clock.currentLive) : s.KeepsLaws (s.transition reason c) :=
  (State.keepsLaws_of_same (s := s) (t := s.setClock c) rfl rfl rfl hc fun _ => rfl).trans
    (State.raise_keepsClaims _ _ _ _ _ _).keepsLaws
/-- A write of an element that keeps header, plan and claim record. -/
theorem State.modifyElement_keepsLaws {e : Elem} {f : Element → Element} (s : State)
    (header : (f (s.element e)).header = (s.element e).header) (claim : (f (s.element e)).claim = (s.element e).claim)
    (plan : ∀ ph, (f (s.element e)).plan ph = (s.element e).plan ph) : s.KeepsLaws (s.modifyElement e f) := by
  refine State.SameTable.keepsLaws ⟨State.modifyElement_claims claim, fun _ => ⟨rfl, rfl⟩, rfl, fun e' => ?_⟩
    (fun _ h => h) (fun e' => ?_) fun _ => id
  · simp only [State.activeProfile, State.element_modifyElement, State.modifyElement_clock]
    split
    · rename_i he; subst he
      cases h : s.clock.currentLive <;> simp [Element.activeProfile, h, plan]
    · rfl
  · rw [State.element_modifyElement]
    split
    · rename_i he; subst he; exact header
    · rfl
theorem State.setStage_keepsLaws (st : Stage) (s : State) : s.KeepsLaws { s with stage := st } :=
  State.keepsLaws_of_same rfl rfl rfl rfl fun _ => rfl
theorem State.voidStage_keepsLaws (s : State) : s.KeepsLaws s.voidStage := by
  unfold State.voidStage
  split
  · exact .refl s
  all_goals exact (s.setStage_keepsLaws _).trans (State.raise_keepsClaims _ _ _ _ _ _).keepsLaws

/-! ## Events of the roster and of the lines -/

/-- A silence expiry: the robots of the port have no place in the end, and those of the other ports keep their links. -/
theorem State.silenceExpiry_keepsLaws (p : Port) (s : State) : s.KeepsLaws (s.silenceExpiry p) := by
  have same : s.SameTable (s.madeStale p) := ⟨fun _ => rfl, fun _ => ⟨rfl, rfl⟩, rfl, fun _ => rfl⟩
  have taken : (s.madeStale p).KeepsClaims (s.silenceExpiry p) :=
    (State.forEach_keepsClaims (fun r t => (State.raiseRobot_keepsClaims .stale r t).trans
      (State.unseat_keepsClaims r .stale _ s)) _).trans (State.forEach_keepsClaims State.finishReturn_keepsClaims _)
  refine ⟨fun h => taken.keepsLaws.table (same.inTable h), fun h hs r hr => ?_,
    fun h => taken.keepsLaws.stops (same.stops h (fun _ => rfl) fun _ => id)⟩
  have perm := h.oneSeat.silenceOrder_perm p
  have members : ∀ r, r ∈ s.silenceOrder p ↔ (s.robot r).bound = some p := fun r =>
    perm.mem_iff.symm.trans State.mem_boundTo
  have other : (s.robot r).bound ≠ some p := fun hb => hr.ne' (State.places_eq_zero.mpr fun e => by
    rw [State.silenceExpiry_eq]
    exact State.back_not_seats h.oneSeat (perm.nodup_iff.mp (s.boundTo_nodup p)) members 16 hb e)
  have seat : 0 < s.places r := by
    rw [← same.places]
    exact hr.trans_le (State.places_le fun e => (taken.claims e).places r)
  obtain ⟨bound, standing, link⟩ := hs r seat
  refine taken.plays.seated ⟨bound, standing, ?_⟩
  rw [← link, State.robotLink, State.robotLink]
  cases hq : (s.robot r).bound with
  | none => simp [State.madeStale, hq]
  | some q =>
    have hne : q ≠ p := fun k => other (by rw [hq, k])
    simp [State.madeStale, hq, State.port_modifyPort_ne _ _ _ _ hne]
theorem State.takeSilences_keepsLaws (s : State) : s.KeepsLaws s.takeSilences :=
  State.takeEach_keepsLaws (fun p t _ => State.silenceExpiry_keepsLaws p t) s
theorem State.benchExpiry_keepsLaws (r : Robot) (s : State) : s.KeepsLaws (s.benchExpiry r) := by
  refine State.KeepsLaws.trans (b := s.modifyRobot r fun x => { x with standing := .clear })
    (State.SameTable.keepsLaws ⟨fun _ => rfl, fun r' => ?_, rfl, fun _ => rfl⟩ (fun r' h => ?_) (fun _ => rfl) fun _ => id)
    (State.raiseRobot_keepsClaims .cleared r _).keepsLaws
  · rw [State.robot_modifyRobot]
    split <;> exact ⟨rfl, rfl⟩
  · by_cases hr : r' = r
    · subst hr
      obtain ⟨bound, -, link⟩ := h
      rw [State.Seated, State.robotLink, State.robot_modifyRobot_self]
      exact ⟨bound, rfl, link⟩
    · refine h.congr ?_ ?_ fun _ => rfl <;> rw [State.robot_modifyRobot_ne _ _ _ _ hr]
/-- Every element of a kind other than NONE that a field stop reaches is BLOCKED (R143). -/
theorem State.stopElement_blocks {e : Elem} {s : State} (hk : (s.element e).header.kind ≠ .none) :
    ((s.stopElement e).claim e).state = .blocked .field := by
  have kept : ((s.modifyElement e Element.endTest).element e).header.kind ≠ .none := by
    rwa [State.element_modifyElement_self, (Element.endTest_samePlan _).header]
  rw [State.stopElement]
  rw [if_neg kept]
  exact State.takeBlock_state _ _ _
theorem State.forEach_stopElement_blocks {xs : List Elem} {e : Elem} (he : e ∈ xs) {s : State}
    (hk : (s.element e).header.kind ≠ .none) : ((s.forEach xs State.stopElement).claim e).state.isBlocked = true := by
  induction xs generalizing s with
  | nil => cases he
  | cons i xs ih =>
    rw [State.forEach_cons]
    have header := ((State.stopElement_arbitrates i s).plays.plans e).header
    rcases List.mem_cons.mp he with rfl | he
    · exact ((State.forEach_keepsClaims State.stopElement_keepsClaims _).claims e).blocked
        (by rw [State.stopElement_blocks hk]; rfl)
    · exact ih he (by rwa [header])
theorem State.mem_group {s : State} {g : Group} {e : Elem} : e ∈ s.group g ↔ (s.element e).header.group = g := by
  simp [State.group, mem_allElems]
theorem State.assertStop_keepsLaws (g : Group) (s : State) : s.KeepsLaws (s.assertStop g) := by
  have same : s.SameTable (s.setStop g ⟨true, none⟩) := ⟨fun _ => rfl, fun _ => ⟨rfl, rfl⟩, rfl, fun _ => rfl⟩
  let v := (s.setStop g ⟨true, none⟩).raise .element (some .fieldStop) none none (some (g.val : Int))
  have stopped : (s.setStop g ⟨true, none⟩).KeepsClaims (s.assertStop g) :=
    (State.raise_keepsClaims .element (some .fieldStop) none none (some (g.val : Int)) _).trans
      (State.forEach_keepsClaims State.stopElement_keepsClaims _)
  refine ⟨fun h => stopped.keepsLaws.table (same.inTable h), fun h hs => stopped.keepsLaws.seats (same.inTable h) hs,
    fun h e ha hk => ?_⟩
  rw [(stopped.plays.plans e).header] at ha hk
  rw [State.stop, stopped.plays.same.stops] at ha
  by_cases hg : (s.element e).header.group = g
  · exact State.forEach_stopElement_blocks (s := v) (State.mem_group.mpr hg) hk
  · refine (stopped.claims e).blocked (h e ?_ hk)
    change ((s.setStop g ⟨true, none⟩).stop (s.element e).header.group).asserted = true at ha
    rwa [State.stop_setStop_ne _ _ _ _ hg] at ha
theorem State.releaseStop_keepsLaws (g : Group) (s : State) : s.KeepsLaws (s.releaseStop g) := by
  refine State.KeepsLaws.trans (b := s.setStop g ⟨false, none⟩)
    (State.SameTable.keepsLaws ⟨fun _ => rfl, fun _ => ⟨rfl, rfl⟩, rfl, fun _ => rfl⟩ (fun _ h => h) (fun _ => rfl)
      fun g' => ?_) (State.raise_keepsClaims _ _ _ _ _ _).keepsLaws
  rw [State.stop_setStop]
  split
  · nofun
  · exact id
theorem State.takeStop_keepsLaws (g : Group) (s : State) : s.KeepsLaws (s.takeStop g) := by
  unfold State.takeStop
  split
  · exact State.assertStop_keepsLaws g s
  · split
    · exact State.releaseStop_keepsLaws g s
    · exact .refl s
theorem State.acceptSense_keepsLaws (i : SenseId) (e : Elem) (s : State) : s.KeepsLaws (s.acceptSense e i) := by
  have flipped : s.KeepsLaws (s.modifyElement e fun x => x.setSense i ⟨!(x.sense i).high, none⟩) :=
    State.modifyElement_keepsLaws s (by cases i <;> rfl) (by cases i <;> rfl) fun ph => by cases i <;> cases ph <;> rfl
  refine flipped.trans ?_
  unfold State.acceptSense
  dsimp only
  repeat' split
  all_goals first
    | exact .refl _
    | exact (State.jam_keepsClaims e _).keepsLaws
    | exact (State.takePiece_keepsClaims e _).keepsLaws
    | exact (State.modifyElement_keepsClaims _ ⟨rfl, rfl, rfl, rfl, rfl, rfl⟩ rfl).keepsLaws
theorem State.frameComplete_keepsLaws (p : Port) (s : State) : s.KeepsLaws (s.frameComplete p) := by
  have live : s.KeepsLaws (s.modifyPort p fun x =>
      { x with link := .live, silence := s.timing.silence, silenceDue := false }) := by
    refine State.SameTable.keepsLaws ⟨fun _ => rfl, fun _ => ⟨rfl, rfl⟩, rfl, fun _ => rfl⟩ (fun r h => ?_) (fun _ => rfl)
      fun _ => id
    obtain ⟨bound, standing, link⟩ := h
    refine ⟨bound, standing, ?_⟩
    obtain ⟨q, hq, hl⟩ := Option.map_eq_some_iff.mp link
    rw [State.robotLink, State.modifyPort_robot, hq, Option.map_some, State.port_modifyPort]
    split <;> simp [hl]
  unfold State.frameComplete
  dsimp only
  split
  · split
    · exact live.trans (State.forEach_keepsClaims (State.raiseRobot_keepsClaims .live) _).keepsLaws
    · exact live
  · exact .refl s

/-! ## Boundaries and ticks -/

/-- Queues and the numbering of boundaries are no part of the claim table nor of the robot records. -/
theorem State.setPorts_claim (s : State) (ps : Vector PortRecord 6) (n : Nat) (e : Elem) :
    State.claim { s with ports := ps, boundaries := n } e = s.claim e := rfl
theorem State.setPorts_robot (s : State) (ps : Vector PortRecord 6) (n : Nat) (r : Robot) :
    State.robot { s with ports := ps, boundaries := n } r = s.robot r := rfl
theorem State.rosterAndArbiter_claim (s before : State) (e : Elem) :
    (s.rosterAndArbiter before).claim e = (s.announceEnables before).claimsAtBoundary.claim e := by
  rw [State.rosterAndArbiter_eq]
  exact State.setPorts_claim _ _ _ e
theorem State.rosterAndArbiter_robot (s before : State) (r : Robot) :
    (s.rosterAndArbiter before).robot r = (s.announceEnables before).claimsAtBoundary.robot r := by
  rw [State.rosterAndArbiter_eq]
  exact State.setPorts_robot _ _ _ r

/-- What roster and arbiter make of the claim table at a boundary: every record comes to fit the phase entered. -/
theorem State.rosterAndArbiter_table {v : State} (before : State)
    (hm : v.clock.state.isLive = true ∨ v.clock.state = .brk ∨ v.clock.state = .finished) :
    (∀ e, v.Becomes e ((v.rosterAndArbiter before).claim e)) ∧
    ((∀ e, (v.claim e).Formed) → ∀ e, ((v.rosterAndArbiter before).claim e).Fits v.clock.currentLive.isSome
      (v.activeProfile e).use) ∧
    (v.Mirrored → (v.rosterAndArbiter before).Mirrored) := by
  have told := State.announceEnables_keepsClaims v before
  have queues := (State.announceEnables_onlyHands v before).sameButQueues
  rw [← told.plays.same.clock] at hm
  have whole := told.trans (State.claimsAtBoundary_keepsClaims hm)
  have fits := State.claimsAtBoundary_fits hm
  simp only [queues.claim, queues.clock, queues.activeProfile] at fits
  have claim : ∀ e, (v.rosterAndArbiter before).claim e = (v.announceEnables before).claimsAtBoundary.claim e :=
    State.rosterAndArbiter_claim v before
  simp only [claim]
  refine ⟨whole.claims, fits, fun m => (whole.mirrors m).of_same claim fun r => ?_⟩
  rw [State.rosterAndArbiter_robot]
  exact ⟨rfl, rfl⟩

/-- A transition with its boundary keeps the laws: the records come to fit the phase entered (R83, R84). -/
theorem State.enter_keepsLaws (reason : Reason) {c : Clock} {s : State}
    (hm : c.state.isLive = true ∨ c.state = .brk ∨ c.state = .finished) : s.KeepsLaws (s.enter reason c) := by
  have kept := (State.enter_arbitrates reason c s).plays
  have arbitrated := (State.rosterAndArbiter_plays (s.prepared reason c) s).plays
  have claim : ∀ e, (s.prepared reason c).claim e = s.claim e := fun e => by
    rw [State.claim, State.prepared_element]; rfl
  have robot : ∀ r, (s.prepared reason c).robot r = s.robot r := fun r => by
    rw [State.prepared_eq, State.stageAtBoundary_eq]; rfl
  obtain ⟨claims, fits, mirrors⟩ := State.rosterAndArbiter_table (v := s.prepared reason c) s
    (by rwa [State.prepared_clock])
  have fed : ((s.prepared reason c).rosterAndArbiter s).KeepsClaims (s.enter reason c) := by
    rw [State.enter_eq]
    exact State.forEach_keepsClaims State.feedAtBoundary_keepsClaims _
  simp only [State.Becomes, claim] at claims
  refine ⟨fun h => fed.keepsLaws.table ⟨fun e => ?_, fun r => ?_, ?_⟩, fun _ h r hr => ?_, fun h => ?_⟩
  · rw [arbitrated.same.clock, arbitrated.activeProfile]
    exact fits (fun e => by rw [claim]; exact (h.records e).toFormed) e
  · exact (State.places_le fun e => (claims e).places r).trans (h.single r)
  · exact mirrors (h.mirrors.of_same claim fun r => by rw [robot]; exact ⟨rfl, rfl⟩)
  · have seat : 0 < s.places r :=
      hr.trans_le (State.places_le fun e => ((fed.claims e).places r).trans ((claims e).places r))
    refine kept.seated ((h r seat).congr ?_ ?_ fun q => ?_)
    · change ((s.prepared reason c).robot r).bound = _; rw [robot]
    · change ((s.prepared reason c).robot r).standing = _; rw [robot]
    · change ((s.prepared reason c).port q).link = _; rw [State.prepared_port]
  · refine State.fieldStopOk_of h (fun e => (kept.plans e).header.trans ?_) (fun g => ?_) fun e k =>
      (fed.claims e).blocked ((claims e).blocked k)
    · change ((s.prepared reason c).element e).header = _
      rw [State.prepared_element]; rfl
    · rw [State.stop, kept.same.stops]
      change ((s.prepared reason c).stop g).asserted = true → _
      rw [State.prepared_eq]; exact id

/-- The clock that START or a timed transition enters has a boundary (R13 to R15). -/
theorem State.driveEntry_isLive (s : State) : s.driveEntry.state.isLive = true := by
  unfold State.driveEntry
  dsimp only
  split <;> rfl
theorem State.afterAuto_enters (s : State) : s.afterAuto.state.isLive = true ∨ s.afterAuto.state = .brk ∨
    s.afterAuto.state = .finished := by
  unfold State.afterAuto
  split
  · exact .inr (.inl rfl)
  · exact .inl s.driveEntry_isLive
theorem State.afterStart_isLive (s : State) : s.afterStart.state.isLive = true := by
  unfold State.afterStart
  split
  · rfl
  · exact s.driveEntry_isLive
theorem State.autoExpiry_keepsLaws (s : State) : s.KeepsLaws s.autoExpiry := by
  unfold State.autoExpiry
  dsimp only
  split
  · exact s.takeSilences_keepsLaws.trans (State.enter_keepsLaws .time (State.afterAuto_enters _))
  · exact State.enter_keepsLaws .time s.afterAuto_enters
theorem State.breakExpiry_keepsLaws (s : State) : s.KeepsLaws s.breakExpiry :=
  s.takeSilences_keepsLaws.trans (State.enter_keepsLaws .time (.inl (State.driveEntry_isLive _)))
theorem State.thresholdReached_keepsLaws (s : State) : s.KeepsLaws s.thresholdReached :=
  s.takeSilences_keepsLaws.trans (State.enter_keepsLaws .time (.inl rfl))
theorem State.naturalFinish_keepsLaws (s : State) : s.KeepsLaws s.naturalFinish :=
  State.enter_keepsLaws .time (.inr (.inr rfl))
theorem State.takePhase_keepsLaws (s : State) : s.KeepsLaws s.takePhase := by
  unfold State.takePhase
  split
  · exact s.autoExpiry_keepsLaws
  · split
    · exact s.breakExpiry_keepsLaws
    · split
      · exact s.thresholdReached_keepsLaws
      · split
        · exact s.naturalFinish_keepsLaws
        · exact .refl s

/-- What a tick leaves outstanding keeps the laws. -/
theorem State.settled_keepsLaws (s : State) : s.KeepsLaws s.settled :=
  ((((((((((s.takeSilences_keepsLaws).trans
    (State.takeEach_keepsLaws (fun r t _ => State.benchExpiry_keepsLaws r t) _)).trans
    (State.forEach_keepsLaws (fun e t => (State.takePulse_keepsClaims e t).keepsLaws) _)).trans
    (State.takeEach_keepsLaws (fun e t _ => (State.timerExpiry_keepsClaims e t).keepsLaws) _)).trans
    (State.takeEach_keepsLaws (fun e t _ => State.acceptSense_keepsLaws .s0 e t) _)).trans
    (State.takeEach_keepsLaws (fun e t _ => State.acceptSense_keepsLaws .s1 e t) _)).trans
    (State.forEach_keepsLaws State.takeStop_keepsLaws _)).trans
    (State.takeEach_keepsLaws (fun e t _ => (State.startPendingFeed_keepsClaims e t).keepsLaws) _)).trans
    (State.takeEach_keepsLaws (fun e t _ => (State.takeArrival_keepsClaims e t).keepsLaws) _)).trans
    (State.takeEach_keepsLaws (fun _ _ hd => (State.settleReturn_keepsClaims
      (State.not_blocked_of_returning (Element.returning_of_returnDue hd))).keepsLaws) _)).trans
    (State.takePhase_keepsLaws _)
theorem State.examined_keepsLaws (p : Port) (s : State) : s.KeepsLaws (s.examined p) :=
  s.settled_keepsLaws.trans (State.frameComplete_keepsLaws p _)

/-- The counting of a tick keeps the laws: it changes none of what they read. -/
theorem State.count_keepsLaws (sense : BitVec 48) (fs : BitVec 4) (s : State) : s.KeepsLaws (s.count sense fs) := by
  have live : (s.count sense fs).clock.currentLive = s.clock.currentLive := by
    rw [State.count_clock]
    split <;> rfl
  refine State.SameTable.keepsLaws ⟨fun e => ?_, fun r => ?_, live, fun e => ?_⟩ (fun r h => h.congr ?_ ?_ fun q => ?_)
    (fun e => ?_) fun g => ?_
  · rw [State.claim, State.count_element]; rfl
  · rw [State.count_robot]; exact ⟨rfl, rfl⟩
  · have plan : ∀ ph, ((s.count sense fs).element e).plan ph = (s.element e).plan ph := fun ph => by
      rw [State.count_element]
      cases ph <;> rfl
    simp only [State.activeProfile, Element.activeProfile, live, plan]
  · rw [State.count_robot]
  · rw [State.count_robot]
  · rw [State.count_port]
    split <;> rfl
  · rw [State.count_element]; rfl
  · rw [State.count_stop]; exact id

/-- Every event that is due keeps the laws. -/
theorem State.event_keepsLaws {c : Instr} {due : State → Bool} {act : State → State} {s : State}
    (hc : eventOf c = some (due, act)) (hd : due s = true) : s.KeepsLaws (act s) := by
  cases c <;> cases hc
  case autoExpiry => exact s.autoExpiry_keepsLaws
  case breakExpiry => exact s.breakExpiry_keepsLaws
  case endgameThreshold => exact s.thresholdReached_keepsLaws
  case naturalFinish => exact s.naturalFinish_keepsLaws
  case feedPendingStart e => exact (State.startPendingFeed_keepsClaims e s).keepsLaws
  case benchExpiry r => exact State.benchExpiry_keepsLaws r s
  case silenceExpiry p => exact State.silenceExpiry_keepsLaws p s
  case shotExpiry e => exact (State.shotExpiry_keepsClaims e s).keepsLaws
  case rateExpiry e => exact (State.rateExpiry_keepsClaims e s).keepsLaws
  case waveHalfChange e => exact (State.waveChange_keepsClaims e s).keepsLaws
  case strobeExpiry e => exact (State.strobeExpiry_keepsClaims e s).keepsLaws
  case claimTimerExpiry e => exact (State.timerExpiry_keepsClaims e s).keepsLaws
  case senseChangeAccepted e i => exact State.acceptSense_keepsLaws i e s
  case fieldStopAsserted g => exact State.assertStop_keepsLaws g s
  case fieldStopReleased g => exact State.releaseStop_keepsLaws g s
  case gateArrival e => exact (State.takeArrival_keepsClaims e s).keepsLaws
  case returnEnd e => exact (State.takeReturnEnd_keepsClaims hd).keepsLaws

end Sys2Proof.Machine

namespace Sys2Proof.Machine

/-! # The requests keep the laws of the claim table -/

/-- In SETUP, ARMED, FINISHED and CLOSED no live phase is current (R1, R30). -/
theorem Clock.currentLive_of_idle {c : Clock} (h : c.state = .setup ∨ c.state = .armed ∨ c.state = .finished ∨
    c.state = .closed) : c.currentLive = none := by
  rcases h with k | k | k | k <;> simp [Clock.currentLive, Clock.currentPhase, k, MatchState.phase]

/-! ## CLAIM (R62 to R64) -/

/-- A robot without a place takes one of an element that is not BLOCKED. -/
theorem State.setClaim_keepsLaws {e : Elem} {r : Robot} {d : ClaimRecord} {s : State} (absent : ∀ e, ¬ s.Seats r e)
    (seated : s.Seated r) (open_ : (s.claim e).state.isBlocked = false)
    (fits : (s.claim e).Fits s.clock.currentLive.isSome (s.activeProfile e).use →
      d.Fits s.clock.currentLive.isSome (s.activeProfile e).use)
    (one : d.placesOf r ≤ 1) (others : ∀ r', r' ≠ r → d.placesOf r' ≤ (s.claim e).placesOf r') :
    s.KeepsLaws (s.setClaim e d) := by
  have kept := (State.setClaim_arbitrates e d s).plays
  have le : ∀ r', r' ≠ r → (s.setClaim e d).places r' ≤ s.places r' := fun r' hr => State.places_le fun e' => by
    rw [State.setClaim_claim]
    split
    · rename_i he; subst he; exact others r' hr
    · exact le_rfl
  refine ⟨fun h => ⟨fun e' => ?_, fun r' => ?_, fun r' => State.setClaim_mirrors e d s r'⟩, fun _ h r' hr' => ?_,
    fun h => State.fieldStopOk_of h (fun e' => (kept.plans e').header)
      (fun g => by rw [State.stop, kept.same.stops]; exact id) fun e' hb => ?_⟩
  · rw [State.setClaim_claim, kept.same.clock, kept.activeProfile]
    split
    · rename_i he; subst he; exact fits (h.records e')
    · exact h.records e'
  · by_cases hr : r' = r
    · subst hr
      rw [State.places_eq_sum, Finset.sum_eq_single e (fun e' _ he => ?_) (by simp)]
      · change ((s.setClaim e d).claim e).placesOf r' ≤ 1
        rwa [State.setClaim_claim, if_pos rfl]
      · change ((s.setClaim e d).claim e').placesOf r' = 0
        rw [State.setClaim_claim, if_neg he]
        exact Nat.eq_zero_of_not_pos fun k => absent e' (State.placesAt_pos.mp k)
    · exact (le r' hr).trans (h.single r')
  · by_cases hr : r' = r
    · exact kept.seated (hr ▸ seated)
    · exact kept.seated (h r' (hr'.trans_le (le r' hr)))
  · rw [State.setClaim_claim]
    split
    · rename_i he; subst he; rw [open_] at hb; cases hb
    · exact hb
/-- A CLAIM that passes its checks comes from a robot that may have a place and has none. -/
theorem State.absent_of_views {s : State} {r : Robot} (hh : s.heldBy r = none) (hw : s.waitOf r = none) (e : Elem) :
    ¬ s.Seats r e := fun k => k.elim (State.heldBy_eq_none.mp hh e) (State.waitOf_eq_none.mp hw e)
theorem State.seated_of_enabled {s : State} {p : Port} {r : Robot} (hy : s.isYours p r = true)
    (he : s.enabled r = true) : s.Seated r := by
  simp only [State.isYours, State.enabled, Bool.and_eq_true, decide_eq_true_eq] at hy he
  exact ⟨by rw [hy]; rfl, he.1.1, he.1.2⟩
/-- What a FREE element makes of a robot that claims it (R63), and what HELD and RETURNING make of it (R64). -/
theorem State.grantClaim_keepsLaws {e : Elem} {r : Robot} {s : State} (absent : ∀ e, ¬ s.Seats r e)
    (seated : s.Seated r) (live : s.clock.state.isLive = true) (free : (s.claim e).state = .free) :
    s.KeepsLaws (s.grantClaim r e).1 := by
  have leaves : (s.claim e).waiters.filter (fun w => decide (w ≠ r)) = (s.claim e).waiters :=
    List.filter_eq_self.mpr fun w hw => by simpa using fun k : w = r => absent e (.inr (k ▸ hw))
  have count : (s.claim e).waiters.count r = 0 := List.count_eq_zero_of_not_mem fun k => absent e (.inr k)
  refine ((State.setClaim_keepsLaws absent seated (by rw [free]; rfl) (fun h => ?_) ?_ fun r' hr => ?_).trans
    (State.setTimer_keepsClaims e _ _).keepsLaws).trans
    (State.modifyElement_keepsClaims _ (Element.granted_samePlan _ _) (Element.granted_claim _ _)).keepsLaws
  · rw [leaves]
    exact ⟨⟨h.capacity, fun _ => .inl rfl⟩, fun _ => Clock.currentLive_of_isLive live, nofun, nofun⟩
  · rw [leaves]
    simp [ClaimRecord.placesOf, count]
  · rw [leaves]
    simp [ClaimRecord.placesOf, Ne.symm hr, free]
theorem State.queueClaim_keepsLaws {e : Elem} {r : Robot} {s : State} (absent : ∀ e, ¬ s.Seats r e)
    (seated : s.Seated r) (live : s.clock.state.isLive = true)
    (taken : (s.claim e).state.holder.isSome = true ∨ (s.claim e).state = .returning) :
    s.KeepsLaws (s.queueClaim r e).1 := by
  have open_ : (s.claim e).state.isBlocked = false := by
    rcases taken with k | k
    · obtain ⟨r', k⟩ := ClaimState.holder_isSome.mp k
      rw [k]; rfl
    · rw [k]; rfl
  have count : (s.claim e).waiters.count r = 0 := List.count_eq_zero_of_not_mem fun k => absent e (.inr k)
  have unheld : (s.claim e).state ≠ .held r := fun k => absent e (.inl k)
  unfold State.queueClaim
  dsimp only
  split
  · rename_i hlen
    refine State.setClaim_keepsLaws absent seated open_ (fun h => ⟨⟨?_, fun _ => taken⟩,
      fun _ => Clock.currentLive_of_isLive live, h.free, h.inert⟩) ?_ fun r' hr => ?_
    · simpa [Config.waitCapacity] using hlen
    · simp [ClaimRecord.placesOf, count, unheld]
    · simp [ClaimRecord.placesOf, Ne.symm hr]
  · exact .refl s
theorem State.claimRequest_keepsLaws (p : Port) (rb eb : Byte) (s : State) :
    s.KeepsLaws (s.claimRequest p rb eb).1 := by
  unfold State.claimRequest
  split
  · rename_i r e _ _
    split
    · exact .refl s
    rename_i yours
    split
    · exact .refl s
    rename_i live
    split
    · exact .refl s
    rename_i enabled
    split
    · exact .refl s
    split
    · exact .refl s
    split
    · exact .refl s
    split
    · exact .refl s
    rename_i held
    simp only [Bool.not_eq_true', Bool.not_eq_false] at yours live enabled
    split
    · split <;> exact .refl s
    · rename_i waits
      have absent := State.absent_of_views (by simpa using held) waits
      have seated := State.seated_of_enabled yours enabled
      split
      · exact State.grantClaim_keepsLaws absent seated live ‹_›
      · rename_i k
        exact State.queueClaim_keepsLaws absent seated live (.inl (by rw [k]; rfl))
      · exact State.queueClaim_keepsLaws absent seated live (.inr ‹_›)
      · exact .refl s
      · exact .refl s
  · exact .refl s

/-! ## RELEASE, WITHDRAW, MOVE, DISPENSE and FREE (R65 to R67, R92, R100) -/

theorem State.releaseRequest_keepsClaims (p : Port) (rb eb : Byte) (s : State) :
    s.KeepsClaims (s.releaseRequest p rb eb).1 := by
  unfold State.releaseRequest
  repeat' split
  all_goals first
    | exact .refl s
    | exact State.endClaim_keepsClaims _ _ s
theorem State.withdrawRequest_keepsClaims (p : Port) (rb : Byte) (s : State) :
    s.KeepsClaims (s.withdrawRequest p rb).1 := by
  unfold State.withdrawRequest
  split
  · rename_i r _
    split
    · exact .refl s
    · split
      · rename_i e _ _
        exact State.setClaim_keepsClaims (.drop (s.claim e) fun w => decide (w ≠ r))
      · exact .refl s
  · exact .refl s
theorem State.moveGate_keepsClaims (e : Elem) (d : Direction) (s : State) : s.KeepsClaims (s.moveGate e d).1 := by
  unfold State.moveGate
  split
  all_goals first
    | exact .refl s
    | exact State.modifyElement_keepsClaims s (Element.reverse_samePlan _ _ _) rfl
    | exact State.startMotion_keepsClaims _ _ _ s
theorem State.moveRequest_keepsClaims (p : Port) (rb eb db : Byte) (s : State) :
    s.KeepsClaims (s.moveRequest p rb eb db).1 := by
  unfold State.moveRequest
  repeat' split
  all_goals first
    | exact .refl s
    | exact State.moveGate_keepsClaims _ _ s
theorem State.dispenseRequest_keepsClaims (p : Port) (rb eb : Byte) (s : State) :
    s.KeepsClaims (s.dispenseRequest p rb eb).1 := by
  unfold State.dispenseRequest
  dsimp only
  repeat' split
  all_goals first
    | exact .refl s
    | (dsimp only; exact State.modifyElement_keepsClaims s ⟨rfl, rfl, rfl, rfl, rfl, rfl⟩ rfl)
theorem State.freeRequest_keepsClaims (eb : Byte) (s : State) : s.KeepsClaims (s.freeRequest eb).1 := by
  unfold State.freeRequest
  repeat' split
  all_goals first
    | exact .refl s
    | exact State.endClaim_keepsClaims _ _ s
theorem State.tuneRequest_keepsClaims (eb : Byte) (value : Half) (s : State) :
    s.KeepsClaims (s.tuneRequest eb value).1 := by
  unfold State.tuneRequest
  dsimp only
  repeat' split
  all_goals first
    | exact .refl s
    | (dsimp only; exact State.modifyElement_keepsClaims s ⟨rfl, rfl, rfl, rfl, rfl, rfl⟩ rfl)
theorem State.testRequest_keepsClaims (eb lb : Byte) (width : Half) (s : State) :
    s.KeepsClaims (s.testRequest eb lb width).1 := by
  unfold State.testRequest
  dsimp only
  repeat' split
  all_goals first
    | exact .refl s
    | (dsimp only; exact State.modifyElement_keepsClaims s ⟨rfl, rfl, rfl, rfl, rfl, rfl⟩ rfl)
theorem State.adjustRequest_keepsClaims (ab : Byte) (amount : Half) (s : State) :
    s.KeepsClaims (s.adjustRequest ab amount).1 := by
  unfold State.adjustRequest
  repeat' split
  all_goals first
    | exact .refl s
    | exact State.addScore_keepsClaims _ _ s

/-! ## REARM (R81) -/

/-- A BLOCKED element whose field stop is not asserted leaves BLOCKED. -/
theorem State.leaveBlocked_keepsLaws {e : Elem} {s : State} (blocked : (s.claim e).state.isBlocked = true)
    (released : (s.stop (s.element e).header.group).asserted = false) : s.KeepsLaws (s.setClaimState e .returning) := by
  have kept := (State.setClaimState_arbitrates e .returning s).plays
  obtain ⟨b, hb⟩ := ClaimState.isBlocked_iff.mp blocked
  have places : ∀ e' r, ((s.setClaimState e .returning).claim e').placesOf r ≤ (s.claim e').placesOf r := fun e' r => by
    rw [State.setClaimState, State.setClaim_claim]
    split
    · rename_i he; subst he; simp [ClaimRecord.placesOf]
    · exact le_rfl
  refine ⟨fun h => ⟨fun e' => ?_, fun r => (State.places_le fun e' => places e' r).trans (h.single r), fun r =>
    State.setClaim_mirrors e _ s r⟩, fun _ h r hr => kept.seated (h r (hr.trans_le (State.places_le fun e' => places e' r))),
    fun h e' ha hk => ?_⟩
  · rw [State.setClaimState, State.setClaim_claim, ← State.setClaimState, kept.same.clock, kept.activeProfile]
    split
    · rename_i he; subst he
      have hw := (h.records e').no_waiters (by rw [hb]; rfl) (by rw [hb]; nofun)
      exact ⟨.vacant hw, fun k => k.elim (absurd hw) nofun, nofun, nofun⟩
    · exact h.records e'
  · rw [(kept.plans e').header] at ha hk
    rw [State.stop, kept.same.stops] at ha
    rw [State.setClaimState, State.setClaim_claim]
    split
    · rename_i he; subst he
      exact absurd ha (by rw [← State.stop, released]; decide)
    · exact h e' ha hk
theorem State.rearmElement_keepsLaws {e : Elem} {s : State} (blocked : (s.claim e).state.isBlocked = true)
    (released : (s.stop (s.element e).header.group).asserted = false) : s.KeepsLaws (s.rearmElement e) := by
  let v := (s.setClaimState e .returning).raise .element (some .rearmed) none (some e) none
  have open_ : (v.claim e).state.isBlocked = false := by
    change ((State.setClaim e _ s).claim e).state.isBlocked = false
    rw [State.setClaim_claim, if_pos rfl]; rfl
  have settled : s.KeepsLaws ((v.enterReturning e .stopped).finishReturn e) :=
    ((State.leaveBlocked_keepsLaws blocked released).trans (State.raise_keepsClaims _ _ _ _ _ _).keepsLaws).trans
      ((State.enterReturning_keepsClaims open_ .stopped).trans (State.finishReturn_keepsClaims e _)).keepsLaws
  unfold State.rearmElement
  dsimp only
  split
  · exact settled.trans
      (State.modifyElement_keepsClaims _ (Element.openFeed_samePlan _ _) (Element.openFeed_claim _ _)).keepsLaws
  · exact settled
theorem State.rearmRequest_keepsLaws (eb : Byte) (s : State) : s.KeepsLaws (s.rearmRequest eb).1 := by
  unfold State.rearmRequest
  split
  · split
    · exact .refl s
    · split
      · exact State.rearmElement_keepsLaws ‹_› (by simpa using ‹¬ (s.stop _).asserted = true›)
      · exact .refl s
  · exact .refl s

/-! ## PENALTY (R46 to R48, R71) -/

/-- A robot that the roster removes has no place in the end (R71). -/
theorem State.removeRobot_places {s : State} (h : s.OneSeat) (r : Robot) (c : Cause) :
    (s.removeRobot r c).places r = 0 := by
  unfold State.removeRobot State.unseat
  split
  · rename_i e held
    have hh := State.seats_of_heldBy held
    have gone : (s.removeHolder e r c).places r = 0 := State.places_eq_zero.mpr fun e' k => by
      by_cases he : e' = e
      · subst he
        rw [State.Seats, State.removeHolder_claim] at k
        exact k.elim nofun (h.apart hh)
      · rw [State.Seats, State.claim, State.removeHolder_local e r c s e' he] at k
        exact he (h.unique k (.inl hh))
    have rest : (s.removeHolder e r c).KeepsClaims ((s.leaveHolder e r c).finishReturn e) :=
      (State.enterReturning_keepsClaims (by rw [State.removeHolder_claim]; rfl) _).trans
        (State.finishReturn_keepsClaims e _)
    exact Nat.le_zero.mp (gone ▸ State.places_le fun e' => (rest.claims e').places r)
  · rename_i held
    have unheld := State.heldBy_eq_none.mp held
    dsimp only
    split
    · rename_i e k waits
      refine State.places_eq_zero.mpr fun e' => ?_
      rw [State.Seats, State.claim, State.dropWaiter_element]
      split
      · rename_i he; subst he
        exact fun k => k.elim (unheld e') fun k => by simp at k
      · rename_i he
        exact fun k => k.elim (unheld e') fun k => he (h.unique (.inr k) (.inr (State.waits_of_waitOf waits)))
    · rename_i waits
      exact State.places_eq_zero.mpr (State.absent_of_views held waits)

/-- A penalty leaves mirrors and binding of its robot record, and the standing too where the arbiter is not told (R48). -/
theorem RobotRecord.penalised_keeps {x y : RobotRecord} {m : MatchState} {bench applied : Nat} {re : Reason}
    (h : x.penalised m bench = some (y, re, applied)) :
    (y.held = x.held ∧ y.waiting = x.waiting ∧ y.bound = x.bound) ∧
    (re = .out ∨ re = .benched ∨ re = .strike ∧ y.standing = x.standing) := by
  unfold RobotRecord.penalised at h
  dsimp only at h
  repeat' split at h
  all_goals cases h
  all_goals simp

/-- A robot record is struck, its notice raised and the arbiter told (R46, R48). -/
theorem State.struck_keepsLaws {r : Robot} {s : State} {y : RobotRecord} {re : Reason}
    (mirrors : y.held = (s.robot r).held ∧ y.waiting = (s.robot r).waiting ∧ y.bound = (s.robot r).bound)
    (told : re = .out ∨ re = .benched ∨ re = .strike ∧ y.standing = (s.robot r).standing) :
    s.KeepsLaws (((s.setRobot r y).raiseRobot re r).tellStanding r re) := by
  obtain ⟨held, waiting, bound⟩ := mirrors
  have same : s.SameTable ((s.setRobot r y).raiseRobot re r) := by
    refine ⟨fun _ => rfl, fun r' => ?_, rfl, fun _ => rfl⟩
    change ((s.setRobot r y).robot r').held = _ ∧ ((s.setRobot r y).robot r').waiting = _
    rw [State.robot_setRobot]
    split
    · rename_i hr; subst hr; exact ⟨held, waiting⟩
    · exact ⟨rfl, rfl⟩
  have taken : ((s.setRobot r y).raiseRobot re r).KeepsClaims
      (((s.setRobot r y).raiseRobot re r).tellStanding r re) := by
    unfold State.tellStanding
    split
    · exact State.removeRobot_keepsClaims r .out _
    · exact State.removeRobot_keepsClaims r .benched _
    · exact .refl _
  refine ⟨fun h => taken.keepsLaws.table (same.inTable h), fun h hs r' hr' => taken.plays.seated ?_,
    fun h => taken.keepsLaws.stops (same.stops h (fun _ => rfl) fun _ => id)⟩
  have seat := hs r' (by
    rw [← same.places]
    exact hr'.trans_le (State.places_le fun e => (taken.claims e).places r'))
  have noticed : (s.setRobot r y).Seated r' → ((s.setRobot r y).raiseRobot re r).Seated r' :=
    (State.raiseRobot_keepsClaims re r _).plays.seated
  by_cases hr : r' = r
  · subst hr
    have one := (same.inTable h).oneSeat
    rcases told with k | k | ⟨-, standing⟩
    · exact absurd hr' (by rw [k, State.tellStanding, State.removeRobot_places (k ▸ one)]; decide)
    · exact absurd hr' (by rw [k, State.tellStanding, State.removeRobot_places (k ▸ one)]; decide)
    · exact noticed (seat.congr (by rw [State.robot_setRobot_self, bound]) (by rw [State.robot_setRobot_self, standing])
        fun _ => rfl)
  · exact noticed (seat.congr (by rw [State.robot_setRobot_ne _ _ _ _ hr]) (by rw [State.robot_setRobot_ne _ _ _ _ hr])
      fun _ => rfl)
theorem State.penaltyRequest_keepsLaws (rb points bench : Byte) (s : State) :
    s.KeepsLaws (s.penaltyRequest rb points bench).1 := by
  unfold State.penaltyRequest
  split
  · exact .refl s
  · split
    · rename_i r _
      split
      · exact .refl s
      · have scored : s.KeepsLaws (s.penaltyPoints r points.toNat) := by
          unfold State.penaltyPoints
          split
          exacts [(State.addScore_keepsClaims _ _ s).keepsLaws, .refl s]
        dsimp only
        split
        · exact scored
        · rename_i hx
          obtain ⟨mirrors, told⟩ := RobotRecord.penalised_keeps hx
          exact scored.trans (State.struck_keepsLaws mirrors told)
    · exact .refl s

end Sys2Proof.Machine

namespace Sys2Proof.Machine

/-! # The requests of plan and match, and every step -/

/-! ## The plan (R9, R24, R27, R44, R45) -/

/-- A write of an element's plan in SETUP, where every profile is closed: the header may change where no field stop of the
new group is asserted. -/
theorem State.writePlan_keepsLaws {e : Elem} {f : Element → Element} {s : State} (setup : s.clock.state = .setup)
    (claim : (f (s.element e)).claim = (s.element e).claim)
    (header : (f (s.element e)).header = (s.element e).header ∨
      (s.stop (f (s.element e)).header.group).asserted = false) : s.KeepsLaws (s.modifyElement e f) := by
  have closed := Clock.currentLive_of_idle (.inl setup)
  have claims := State.modifyElement_claims (s := s) claim
  refine State.SameTable.keepsLaws_of_vacant ⟨claims, fun _ => ⟨rfl, rfl⟩, rfl, fun e' => ?_⟩ closed fun h e' => ?_
  · rw [State.activeProfile_closed closed, State.activeProfile_closed (s := s.modifyElement e f) closed]
  · change (s.stop ((s.modifyElement e f).element e').header.group).asserted = true → _
    rw [claims, State.element_modifyElement]
    split
    · rename_i he; subst he
      rcases header with k | k
      · rw [k]; exact h e'
      · exact fun ha => absurd ha (by rw [k]; decide)
    · exact h e'
theorem State.voidSnapshots_keepsLaws (e : Elem) (s : State) : s.KeepsLaws (s.voidSnapshots e) :=
  State.keepsLaws_of_same rfl rfl rfl rfl fun q => by rw [State.voidSnapshots_port]; rfl
theorem State.elementRequest_keepsLaws (eb : Byte) (a : HeaderArgs) (s : State) :
    s.KeepsLaws (s.elementRequest eb a).1 := by
  unfold State.elementRequest
  split
  · exact .refl s
  · rename_i setup
    split
    · rename_i e h _ _
      dsimp only
      split
      · exact .refl s
      · rename_i released
        simp only [Bool.or_eq_true, not_or, Bool.not_eq_true] at released
        split
        · exact .refl s
        · exact (State.writePlan_keepsLaws (not_not.mp setup) rfl (.inr released.2)).trans
            (State.voidSnapshots_keepsLaws e _)
    · exact .refl s
theorem State.profileRequest_keepsLaws (eb pb : Byte) (a : ProfileArgs) (s : State) :
    s.KeepsLaws (s.profileRequest eb pb a).1 := by
  unfold State.profileRequest
  split
  · exact .refl s
  · rename_i setup
    split
    · rename_i ph _ _
      split
      · dsimp only
        exact State.writePlan_keepsLaws (not_not.mp setup) (by cases ph <;> rfl) (.inl (Element.setPlan_header _ _ _))
      · exact .refl s
    · exact .refl s
/-- A write of a robot record in SETUP that keeps its mirrors. -/
theorem State.writeRobot_keepsLaws {r : Robot} {f : RobotRecord → RobotRecord} {s : State}
    (setup : s.clock.state = .setup) (mirrors : ∀ x, (f x).held = x.held ∧ (f x).waiting = x.waiting) :
    s.KeepsLaws (s.modifyRobot r f) := by
  refine State.SameTable.keepsLaws_of_vacant ⟨fun _ => rfl, fun r' => ?_, rfl, fun _ => rfl⟩
    (Clock.currentLive_of_idle (.inl setup)) id
  rw [State.robot_modifyRobot]
  split
  · rename_i hr; subst hr; exact mirrors _
  · exact ⟨rfl, rfl⟩
theorem State.bindRequest_keepsLaws (rb qb ab : Byte) (s : State) : s.KeepsLaws (s.bindRequest rb qb ab).1 := by
  unfold State.bindRequest
  split
  · exact .refl s
  · rename_i setup
    split
    · split
      · dsimp only
        exact State.writeRobot_keepsLaws (not_not.mp setup) fun _ => ⟨rfl, rfl⟩
      · exact .refl s
    · exact .refl s
theorem State.unbindRequest_keepsLaws (rb : Byte) (s : State) : s.KeepsLaws (s.unbindRequest rb).1 := by
  unfold State.unbindRequest
  split
  · exact .refl s
  · rename_i setup
    split
    · split
      · dsimp only
        exact State.writeRobot_keepsLaws (not_not.mp setup) fun _ => ⟨rfl, rfl⟩
      · exact .refl s
    · exact .refl s
theorem State.timingRequest_keepsLaws (a : TimingArgs) (s : State) : s.KeepsLaws (s.timingRequest a).1 := by
  unfold State.timingRequest
  split
  · exact State.keepsLaws_of_same rfl rfl rfl rfl fun _ => rfl
  · exact .refl s

/-! ## The match (R10 to R21) -/

theorem State.armEvent_keepsClaims (s : State) : s.KeepsClaims s.armEvent :=
  (State.forEach_keepsClaims (fun _ s => State.modifyElement_keepsClaims s (Element.endTest_samePlan _)
    (Element.endTest_claim _)) s).trans (State.forEach_keepsClaims State.homeGate_keepsClaims _)
theorem State.armRequest_keepsLaws (s : State) : s.KeepsLaws s.armRequest.1 := by
  unfold State.armRequest
  split
  · exact .refl s
  · rename_i setup
    split
    · exact .refl s
    · split
      · exact .refl s
      · dsimp only
        refine (State.transition_keepsLaws .arm ?_).trans (State.armEvent_keepsClaims _).keepsLaws
        rw [Clock.currentLive_of_idle (.inl (not_not.mp setup)), Clock.currentLive_of_idle (.inr (.inl rfl))]
theorem Element.stopHoming_keeps (x : Element) : x.SamePlan x.stopHoming ∧ x.stopHoming.claim = x.claim := by
  unfold Element.stopHoming
  split
  · exact ⟨Element.halted_samePlan _, rfl⟩
  · exact ⟨.refl _, rfl⟩
theorem State.disarmRequest_keepsLaws (s : State) : s.KeepsLaws s.disarmRequest.1 := by
  unfold State.disarmRequest
  split
  · exact .refl s
  · rename_i armed
    dsimp only
    refine ((State.transition_keepsLaws .disarm ?_).trans (State.voidStage_keepsLaws _)).trans
      (State.forEach_keepsClaims (fun _ s => State.modifyElement_keepsClaims s (Element.stopHoming_keeps _).1
        (Element.stopHoming_keeps _).2) _).keepsLaws
    rw [Clock.currentLive_of_idle (.inr (.inl (not_not.mp armed))), Clock.currentLive_of_idle (.inl rfl)]
theorem State.startRequest_keepsLaws (s : State) : s.KeepsLaws s.startRequest.1 := by
  unfold State.startRequest
  split
  · exact .refl s
  · split
    · exact .refl s
    · dsimp only
      exact State.enter_keepsLaws .start (.inl s.afterStart_isLive)
theorem State.abortRequest_keepsLaws (s : State) : s.KeepsLaws s.abortRequest.1 := by
  unfold State.abortRequest
  split
  · dsimp only
    exact State.enter_keepsLaws .abort (.inr (.inr rfl))
  · exact .refl s
/-- HALT and RESUME keep the current phase (R1, R17, R18). -/
theorem Clock.currentLive_of_phase {c : Clock} {ph : Phase} (h : c.state.phase = some ph) :
    c.currentLive = ph.live := by
  have state := MatchState.phase_eq_some.mp h
  cases ph <;> simp [Clock.currentLive, Clock.currentPhase, state, Phase.state, MatchState.phase]
theorem State.haltRequest_keepsLaws (s : State) : s.KeepsLaws s.haltRequest.1 := by
  unfold State.haltRequest
  split
  · rename_i ph hp
    dsimp only
    refine (State.transition_keepsLaws .halt ?_).trans (State.announceEnables_keepsClaims _ s).keepsLaws
    rw [Clock.currentLive_of_phase hp]
    rfl
  · split <;> exact .refl s
theorem State.resumeRequest_keepsLaws (s : State) : s.KeepsLaws s.resumeRequest.1 := by
  unfold State.resumeRequest
  split
  · rename_i ph hm hf
    dsimp only
    refine (State.transition_keepsLaws .resume ?_).trans (State.announceEnables_keepsClaims _ s).keepsLaws
    rw [Clock.currentLive_of_phase (MatchState.phase_eq_some.mpr rfl)]
    simp [Clock.currentLive, Clock.currentPhase, hm, hf]
  · exact .refl s
theorem State.finaliseRequest_keepsLaws (s : State) : s.KeepsLaws s.finaliseRequest.1 := by
  unfold State.finaliseRequest
  split
  · rename_i finished
    dsimp only
    refine State.transition_keepsLaws .finalise ?_
    rw [Clock.currentLive_of_idle (.inr (.inr (.inl finished))), Clock.currentLive_of_idle (.inr (.inr (.inr rfl)))]
  · exact .refl s

/-! ## NEW MATCH and reset (R21, R43, R86, R160) -/

/-- An empty table, as a reset and NEW MATCH make it. -/
theorem State.keepsLaws_of_empty {s t : State} (closed : t.clock.currentLive = none)
    (holder : ∀ e, (t.claim e).state.holder = none) (waiters : ∀ e, (t.claim e).waiters = [])
    (shut : ∀ e, (t.claim e).state ≠ .free) (robots : ∀ r, (t.robot r).held = none ∧ (t.robot r).waiting = none)
    (stops : t.FieldStopOk) : s.KeepsLaws t := by
  have absent : ∀ e r, ¬ t.Seats r e := fun e r k => by
    rcases k with k | k
    · simpa [k, ClaimState.holder] using holder e
    · simp [waiters e] at k
  have none' : ∀ r, t.places r = 0 := fun r => State.places_eq_zero.mpr fun e => absent e r
  refine ⟨fun _ => ⟨fun e => ?_, fun r => (none' r).trans_le (Nat.zero_le 1), fun r => ?_⟩,
    fun _ _ r hr => absurd hr (by rw [none' r]; decide), fun _ => stops⟩
  · rw [State.activeProfile_closed closed]
    exact ClaimRecord.Formed.fits_closed (waiters e) (by rw [holder e]; rfl) (shut e)
  · rw [State.heldBy_eq_none.mpr fun e k => absent e r (.inl k), State.waitOf_eq_none.mpr fun e k => absent e r (.inr k)]
    exact robots r
theorem State.newMatchEvent_claim (s : State) (e : Elem) :
    s.newMatchEvent.claim e = ⟨s.claimAtNewMatch (s.element e), none, []⟩ := by
  rw [State.claim, State.newMatchEvent_element]; rfl
theorem State.newMatchRequest_keepsLaws (s : State) : s.KeepsLaws s.newMatchRequest.1 := by
  unfold State.newMatchRequest
  split
  · dsimp only
    generalize hu : s.transition .newMatch ⟨.setup, 0, none, false, 0⟩ = u
    have closed : u.newMatchEvent.clock.currentLive = none := by rw [← hu]; rfl
    refine State.keepsLaws_of_empty closed (fun e => ?_) (fun e => ?_) (fun e => ?_) (fun r => ?_) fun e ha hk => ?_
    · rw [State.newMatchEvent_claim, State.claimAtNewMatch_eq]
      split <;> rfl
    · rw [State.newMatchEvent_claim]
    · rw [State.newMatchEvent_claim, State.claimAtNewMatch_eq]
      split <;> nofun
    · rw [State.newMatchEvent_robot]
      exact ⟨rfl, rfl⟩
    · rw [State.newMatchEvent_element] at ha hk
      rw [State.newMatchEvent_claim, State.claimAtNewMatch_eq, if_pos ⟨hk, ha⟩]
      rfl
  · exact .refl s
theorem State.afterReset_keepsLaws (straps : BitVec 5) (sense : BitVec 48) (fs : BitVec 4) (n : Nat) (q : List Instr)
    (cs : List (Port × Bool)) (s : State) : s.KeepsLaws (.afterReset straps sense fs n q cs) := by
  refine State.keepsLaws_of_empty rfl (fun e => ?_) (fun e => ?_) (fun e => ?_) (fun r => ?_) fun e _ hk => ?_
  · rw [State.afterReset_claim]; rfl
  · rw [State.afterReset_claim]
  · rw [State.afterReset_claim]; nofun
  · rw [State.afterReset_robot]; exact ⟨rfl, rfl⟩
  · exact absurd (by rw [State.afterReset_element]; rfl) hk

/-! ## Every request, every command, every step -/

theorem request_keepsLaws {c : Instr} {p : Port} {code : Byte} {body : State → State × Answer}
    (hq : requestOf c = some (p, code, body)) (s : State) : s.KeepsLaws (body s).1 := by
  cases c <;> cases hq
  case ping | readClock | readScores | readRobot | readElement => exact .refl s
  case readNotice =>
    unfold State.takeNotices
    split
    · dsimp only; exact State.modifyPort_keepsLaws s rfl
    · exact .refl s
  case subscribe => dsimp only [State.storeMask]; exact State.modifyPort_keepsLaws s rfl
  case snapshot =>
    unfold State.latchSnapshot
    split
    · exact .refl s
    · split
      · exact .refl s
      · dsimp only; exact State.modifyPort_keepsLaws s rfl
  case readSnapshot => dsimp only [State.takeSnapshot]; exact State.modifyPort_keepsLaws s rfl
  case claim => exact State.claimRequest_keepsLaws _ _ _ s
  case release => exact (State.releaseRequest_keepsClaims _ _ _ s).keepsLaws
  case withdraw => exact (State.withdrawRequest_keepsClaims _ _ s).keepsLaws
  case move => exact (State.moveRequest_keepsClaims _ _ _ _ s).keepsLaws
  case dispense => exact (State.dispenseRequest_keepsClaims _ _ _ s).keepsLaws
  case setTiming => exact State.timingRequest_keepsLaws _ s
  case setElement => exact State.elementRequest_keepsLaws _ _ s
  case setProfile => exact State.profileRequest_keepsLaws _ _ _ s
  case bind => exact State.bindRequest_keepsLaws _ _ _ s
  case unbind => exact State.unbindRequest_keepsLaws _ s
  case lineTest => exact (State.testRequest_keepsClaims _ _ _ s).keepsLaws
  case arm => exact s.armRequest_keepsLaws
  case disarm => exact s.disarmRequest_keepsLaws
  case start => exact s.startRequest_keepsLaws
  case halt => exact s.haltRequest_keepsLaws
  case resume => exact s.resumeRequest_keepsLaws
  case abort => exact s.abortRequest_keepsLaws
  case finalise => exact s.finaliseRequest_keepsLaws
  case newMatch => exact s.newMatchRequest_keepsLaws
  case penalty => exact State.penaltyRequest_keepsLaws _ _ _ s
  case adjust => exact (State.adjustRequest_keepsClaims _ _ s).keepsLaws
  case free => exact (State.freeRequest_keepsClaims _ s).keepsLaws
  case rearm => exact State.rearmRequest_keepsLaws _ s
  case tune => exact (State.tuneRequest_keepsClaims _ _ s).keepsLaws
  case stageOpen => rw [s.stageOpenRequest_eq]; exact s.setStage_keepsLaws _
  case stagePut => rw [s.stagePutRequest_eq]; exact s.setStage_keepsLaws _
  case stageSeal => rw [s.stageSealRequest_eq]; exact s.setStage_keepsLaws _
  case stageDiscard => rw [s.stageDiscardRequest_eq]; exact s.setStage_keepsLaws _

/-- RST becomes active: frames alone are lost. -/
theorem State.dropFrames_keepsLaws (s : State) :
    s.KeepsLaws { s with ports := rewriteAll (fun _ x => x.dropFrame) s.ports, rst := true } :=
  State.keepsLaws_of_same rfl rfl rfl rfl fun q => by
    change ((rewriteAll (fun _ (x : PortRecord) => x.dropFrame) s.ports).get q).link = _
    rw [rewriteAll_get]
    rfl

theorem exec_keepsLaws {c : Instr} {s t : State} (h : exec c s = .next t) : s.KeepsLaws t := by
  rcases exec_cases h with k | ⟨straps, sense, fs, -, k⟩ | ⟨sense, fs, -, k⟩ | ⟨due, act, hc, hd, k⟩ |
    ⟨p, code, body, bytes, hc, k⟩ | ⟨p, bytes, k⟩ | ⟨p, f, k⟩ | k <;> rw [k]
  · exact .refl s
  · exact State.afterReset_keepsLaws _ _ _ _ _ _ s
  · exact s.settled_keepsLaws.trans (State.count_keepsLaws sense fs _)
  · exact State.event_keepsLaws hc hd
  · exact ((State.examined_keepsLaws p s).trans (request_keepsLaws hc _)).trans (State.answered_keepsLaws p bytes _)
  · exact (State.examined_keepsLaws p s).trans (State.answered_keepsLaws p bytes _)
  · exact State.setFrame_keepsLaws p f s
  · exact s.dropFrames_keepsLaws
/-- A step keeps every law that `State.KeepsLaws` carries from one state to the next. -/
theorem step_keepsLaw {P : State → Prop} (hP : ∀ s t : State, s.KeepsLaws t → P s → P t) {s t : State} (h : P s)
    (hs : step s = .next t) : P t :=
  step_keeps (P := P) (fun _ s h => hP s _ (State.keepsLaws_of_same rfl rfl rfl rfl fun _ => rfl) h)
    (fun _ s h => hP s _ (State.keepsLaws_of_same rfl rfl rfl rfl fun _ => rfl) h)
    (fun p f s h => hP _ _ (State.setFrame_keepsLaws p f s) h) (fun _ _ _ h he => hP _ _ (exec_keepsLaws he) h) h hs

/-- Settles O58: every command keeps the laws of the table, and with them the law of its seats. -/
theorem stepKeepsClaimTable : Obligations.StepKeepsClaimTable := by
  refine ⟨fun s t h hs => State.claimsOk_iff.mpr (step_keepsLaw (fun _ _ k => k.table) (State.claimsOk_iff.mp h) hs),
    fun s t h hseats hs => ?_⟩
  have both : t.InTable ∧ ∀ r, 0 < t.places r → t.Seated r :=
    step_keepsLaw (P := fun s => s.InTable ∧ ∀ r, 0 < s.places r → s.Seated r)
      (fun _ _ k h => ⟨k.table h.1, k.seats h.1 h.2⟩) ⟨State.claimsOk_iff.mp h, hseats⟩ hs
  exact both.2

/-- Settles O59: every command keeps the law of the field stops, by itself. -/
theorem stepKeepsFieldStopsBlocking : Obligations.StepKeepsFieldStopsBlocking := fun _ _ h hs =>
  step_keepsLaw (P := State.FieldStopOk) (fun _ _ k => k.stops) h hs

end Sys2Proof.Machine

namespace Sys2Proof.Machine

/-! # What the arbiter tells (R68, R72, R79, R80) -/

/-- An operation of arbiter and engines with the records that it hands, in order. -/
structure State.Tells (s : State) (ns : List Notice) (t : State) : Prop where
  keeps : s.Arbitrates t
  handed : s.HandedAll ns t

theorem State.Arbitrates.notice {s t : State} (h : s.Arbitrates t) : t.notice = s.notice := by
  unfold State.notice
  rw [h.plays.same.clock]
theorem State.Tells.refl (s : State) : s.Tells [] s := ⟨.refl s, .nil fun _ => rfl⟩
theorem State.Tells.trans {ns ms : List Notice} {s t u : State} (h : s.Tells ns t) (k : t.Tells ms u) :
    s.Tells (ns ++ ms) u := ⟨h.keeps.trans k.keeps, h.handed.append k.handed h.keeps.plays.routes⟩
theorem State.Tells.single {n : Notice} {s t : State} (h : s.Tells [n] t) : s.Handed n t := fun q => by
  have := h.handed q
  by_cases hr : s.routes n q = true <;> simp_all
/-- An operation that leaves the queues as they are. -/
theorem State.Arbitrates.silent {s t : State} (h : s.Arbitrates t) (hp : t.ports = s.ports) : s.Tells [] t :=
  ⟨h, .nil fun q => by rw [State.port, State.port, hp]⟩
theorem State.modifyElement_tells {e : Elem} {f : Element → Element} {s : State}
    (h : (s.element e).SamePlan (f (s.element e))) : s.Tells [] (s.modifyElement e f) :=
  (State.modifyElement_arbitrates s h).silent rfl
theorem State.setTimer_tells (e : Elem) (t : ClaimTimer) (s : State) : s.Tells [] (s.setTimer e t) :=
  (State.setTimer_arbitrates e t s).silent rfl
theorem State.setClaim_tells (e : Elem) (c : ClaimRecord) (s : State) : s.Tells [] (s.setClaim e c) :=
  (State.setClaim_arbitrates e c s).silent rfl
theorem State.setClaimState_tells (e : Elem) (c : ClaimState) (s : State) : s.Tells [] (s.setClaimState e c) :=
  State.setClaim_tells e _ s
theorem State.raise_tells (k : NoticeKind) (re : Option Reason) (r : Option Robot) (e : Option Elem) (v : Option Int)
    (s : State) : s.Tells [s.notice k re r e v] (s.raise k re r e v) :=
  ⟨State.raise_arbitrates k re r e v s, .single (State.raise_handed k re r e v s)⟩

/-- The DROPPED records of a wait list, oldest first, one for each waiter that is not kept, with its position in the list
as it stood (R72). -/
def State.drops (s : State) (e : Elem) (re : Reason) (keep : Robot → Bool) (ws : List Robot) (k : Nat) : List Notice :=
  ((ws.zipIdx k).filter fun i => !keep i.1).map fun i =>
    s.notice .dropped (some re) (some i.1) (some e) (some ((i.2 + 1 : Nat) : Int))

theorem State.drops_all (s : State) (e : Elem) (re : Reason) (ws : List Robot) :
    s.drops e re (fun _ => false) ws 0 = ws.mapIdx fun k r =>
      s.notice .dropped (some re) (some r) (some e) (some ((k + 1 : Nat) : Int)) := by
  rw [List.mapIdx_eq_zipIdx_map, State.drops]
  simp
theorem State.Arbitrates.drops {s t : State} (h : s.Arbitrates t) : t.drops = s.drops := by
  unfold State.drops
  rw [h.notice]
theorem State.raiseDrops_tells (e : Elem) (re : Reason) (keep : Robot → Bool) (k : Nat) (ws : List Robot) (s : State) :
    s.Tells (s.drops e re keep ws k) (s.raiseDrops e re keep (k + 1) ws) := by
  induction ws generalizing k s with
  | nil => exact .refl s
  | cons r ws ih =>
    have tail : ∀ {u : State}, s.Arbitrates u → u.Tells (s.drops e re keep ws (k + 1)) (u.raiseDrops e re keep (k + 2) ws) :=
      fun {u} h => by
        rw [← h.drops]
        exact ih (k + 1) u
    rw [State.raiseDrops, State.drops, List.zipIdx_cons]
    cases hk : keep r with
    | true =>
      rw [if_pos rfl, List.filter_cons_of_neg (by simp [hk])]
      exact tail (.refl s)
    | false =>
      have told := State.raise_tells .dropped (some re) (some r) (some e) (some ((k + 1 : Nat) : Int)) s
      rw [if_neg Bool.false_ne_true, List.filter_cons_of_pos (by simp [hk])]
      exact told.trans (tail told.keeps)
theorem State.dropWaiters_tells (e : Elem) (re : Reason) (keep : Robot → Bool) (s : State) :
    s.Tells (s.drops e re keep (s.claim e).waiters 0) (s.dropWaiters e re keep) := by
  have written := State.setClaim_tells e { s.claim e with waiters := (s.claim e).waiters.filter keep } s
  have raised := State.raiseDrops_tells e re keep 0 (s.claim e).waiters
    (s.setClaim e { s.claim e with waiters := (s.claim e).waiters.filter keep })
  rw [written.keeps.drops] at raised
  exact written.trans raised
theorem State.setClaim_mirrored (e : Elem) (c : ClaimRecord) (s : State) : (s.setClaim e c).Mirrored :=
  State.setClaim_mirrors e c s
theorem State.dropWaiters_mirrors (e : Elem) (re : Reason) (keep : Robot → Bool) (s : State) :
    (s.dropWaiters e re keep).Mirrored := by
  unfold State.dropWaiters
  exact (State.setClaim_mirrored e _ s).of_same
    (fun _ => by rw [State.raiseDrops_eq]; rfl) fun _ => by rw [State.raiseDrops_eq]; exact ⟨rfl, rfl⟩

/-- The ELEMENT record of an element that enters BLOCKED (R80). -/
def State.blockedNotice (s : State) (e : Elem) (b : BlockCause) : Notice :=
  s.notice .element (some .blocked) none (some e) (some (b.code : Int))
theorem State.enterBlocked_tells (e : Elem) (b : BlockCause) (s : State) :
    s.Tells (s.drops e b.cause.reason (fun _ => false) (s.claim e).waiters 0 ++ [s.blockedNotice e b])
      (s.enterBlocked e b) := by
  have dropped := ((State.dropWaiters_tells e b.cause.reason (fun _ => false) s).trans
    (State.setTimer_tells e .stopped _)).trans (State.setClaimState_tells e (.blocked b) _)
  have noticed := dropped.trans (State.raise_tells .element (some .blocked) none (some e) (some (b.code : Int)) _)
  rw [dropped.keeps.notice, List.append_nil, List.append_nil] at noticed
  exact noticed
theorem State.removeHolder_tells (e : Elem) (r : Robot) (c : Cause) (s : State) :
    s.Tells [s.notice .lost (some c.reason) (some r) (some e) none] (s.removeHolder e r c) :=
  ⟨State.removeHolder_arbitrates e r c s, .single (s.setClaim_raise_handed e _ .lost (some c.reason) (some r) none)⟩
theorem State.enterBlocked_mirrors (e : Elem) (b : BlockCause) (s : State) : (s.enterBlocked e b).Mirrored :=
  State.setClaim_mirrored e _ _
/-- A FIELD or JAM cause on a HELD element (R79, R80). -/
theorem State.takeBlock_held {s : State} {e : Elem} {r : Robot} (h : (s.claim e).state = .held r) (b : BlockCause) :
    s.takeBlock e b = (s.removeHolder e r b.cause).enterBlocked e b := by rw [State.takeBlock, h]
theorem State.takeBlock_held_tells {s : State} {e : Elem} {r : Robot} (h : (s.claim e).state = .held r) (b : BlockCause) :
    s.Tells (s.notice .lost (some b.cause.reason) (some r) (some e) none ::
      s.drops e b.cause.reason (fun _ => false) (s.claim e).waiters 0 ++ [s.blockedNotice e b]) (s.takeBlock e b) := by
  have removed := State.removeHolder_tells e r b.cause s
  have entered := State.enterBlocked_tells e b (s.removeHolder e r b.cause)
  rw [State.takeBlock_held h]
  rw [State.removeHolder_claim, removed.keeps.drops, State.blockedNotice, removed.keeps.notice] at entered
  exact removed.trans entered
/-- A FIELD or JAM cause on a BLOCKED element writes the cause alone (R79). -/
theorem State.takeBlock_blocked {s : State} {e : Elem} (h : (s.claim e).state.isBlocked = true) (b : BlockCause) :
    s.takeBlock e b = s.setClaimState e (.blocked b) := by
  obtain ⟨b', hb⟩ := ClaimState.isBlocked_iff.mp h
  rw [State.takeBlock, hb]
theorem State.takeBlock_mirrors (e : Elem) (b : BlockCause) (s : State) : (s.takeBlock e b).Mirrored := by
  unfold State.takeBlock
  split
  · exact State.enterBlocked_mirrors e b _
  · exact State.enterBlocked_mirrors e b s
  · exact State.enterBlocked_mirrors e b s
  · exact State.enterBlocked_mirrors e b s
  · exact State.setClaim_mirrored e _ s

/-- Settles O18, by the claim state found. -/
theorem blockCauseIsTaken : Obligations.BlockCauseIsTaken := by
  intro e b s x c t note drops blocked
  have kept := State.takeBlock_arbitrates e b s
  refine ⟨fun r hr => ?_, fun hc => ?_, fun hb => ?_, State.takeBlock_mirrors e b s, State.takeBlock_local e b s,
    kept.plays.same, kept.scores, kept.plays.rosters, kept.plays.ports⟩
  · have told := State.takeBlock_held_tells hr b
    rw [State.drops_all] at told
    have element : t.element e = _ := (congrArg (·.element e) (State.takeBlock_held hr b)).trans
      (State.enterBlocked_element e b _)
    rw [State.claim, State.removeHolder_element, Element.claimEnded_eq] at element
    have claim : t.claim e = ⟨.blocked b, (s.robot r).alliance, []⟩ := by rw [State.claim, element]
    refine ⟨claim, by rw [element]; rfl, told.handed, ?_⟩
    rw [claim, element]
    rfl
  · have hn : c.state.isBlocked = false := by rcases hc with k | k | k <;> rw [k] <;> rfl
    have hh : c.state.holder = none := by rcases hc with k | k | k <;> rw [k] <;> rfl
    have entered : t = s.enterBlocked e b := State.takeBlock_unclaimed hn hh b
    have told := State.enterBlocked_tells e b s
    rw [State.drops_all, ← entered] at told
    exact ⟨entered ▸ State.enterBlocked_element e b s, told.handed⟩
  · have written : t = s.setClaimState e (.blocked b) := State.takeBlock_blocked hb b
    exact ⟨by rw [written, State.setClaimState, State.setClaim_element, if_pos rfl], by rw [written]; rfl⟩

end Sys2Proof.Machine

namespace Sys2Proof.Machine

/-! # The common ending of a claim, and the roster's removals (R68, R71 to R73, R131, R133) -/

/-- The cooldown that the ending of a claim loads (R131, R133): less the tick that a claim timer at 0 has had already. -/
theorem State.endCooldown_eq (s : State) (e : Elem) (c : Cause) :
    ClaimTimer.cool (s.endsBeforeTick e c) (s.activeProfile e).cooldownMs =
      if (s.activeProfile e).cooldown.getD 0 = 0 then ⟨false, 0⟩
      else ⟨true, (s.activeProfile e).cooldown.getD 0 -
        if c.beforeTick = true ∧ (s.element e).timer = ⟨true, 0⟩ then 1 else 0⟩ := by
  have due : (s.element e).timer.due = decide ((s.element e).timer = ⟨true, 0⟩) := by
    rcases (s.element e).timer with ⟨running, count⟩
    simp [ClaimTimer.due]
  rw [ClaimTimer.cool_cases, State.endsBeforeTick, due, Profile.cooldownMs, ClaimTimer.stopped]
  by_cases hb : c.beforeTick = true <;> by_cases ht : (s.element e).timer = ⟨true, 0⟩ <;> simp [hb, ht]
theorem Cause.beforeTick_iff {c : Cause} (hf : c ≠ .field) (hj : c ≠ .jam) :
    c.beforeTick = true ↔ c ≠ .expired ∧ c ≠ .phase := by
  cases c <;> simp_all [Cause.beforeTick]

theorem State.endClaim_held {s : State} {e : Elem} {r : Robot} (h : (s.claim e).state = .held r) (c : Cause) :
    s.endClaim e c = (s.leaveHolder e r c).finishReturn e := by rw [State.endClaim, h]
theorem State.endClaim_unheld {s : State} {e : Elem} (h : (s.claim e).state.holder = none) (c : Cause) :
    s.endClaim e c = s := by
  unfold State.endClaim
  split
  · rename_i r hr; simp [hr, ClaimState.holder] at h
  all_goals rfl

/-- The return of an element of a kind other than GATE is taken in the same step exactly where its timer does not run
(R73). -/
theorem State.finishReturn_cooldown {s : State} {e : Elem} (hk : (s.element e).header.kind ≠ .gate)
    (hr : (s.claim e).state = .returning) (t : ClaimTimer) : (s.setTimer e t).finishReturn e =
      if t.running = true then s.setTimer e t else (s.setTimer e t).settleReturn e := by
  have due : ((s.setTimer e t).element e).returnDue = !t.running := by
    rw [State.setTimer, State.element_modifyElement_self, Element.returnDue]
    change (decide ((s.element e).claim.state = .returning) && _) = _
    rw [← State.claim, hr]
    dsimp only
    split
    · exact absurd ‹_› hk
    all_goals rfl
  rw [State.finishReturn, due]
  cases t.running <;> rfl

/-- The ending of a claim on an element of a kind other than GATE (R68, R73). -/
theorem State.endClaim_cooldown {s : State} {e : Elem} {r : Robot} (h : (s.claim e).state = .held r)
    (hk : (s.element e).header.kind ≠ .gate) (c : Cause) : s.endClaim e c =
      if (s.activeProfile e).cooldown.getD 0 = 0 then ((s.vacate e r c).setTimer e ⟨false, 0⟩).settleReturn e
      else (s.vacate e r c).setTimer e ⟨true, (s.activeProfile e).cooldown.getD 0 -
        if c.beforeTick = true ∧ (s.element e).timer = ⟨true, 0⟩ then 1 else 0⟩ := by
  have header := ((State.vacate_arbitrates e r c s).plays.plans e).header
  have returning : ((s.vacate e r c).claim e).state = .returning := by
    rw [State.claim, State.vacate_element, Element.claimEnded_claim]
  rw [State.endClaim_held h, State.leaveHolder_eq, if_neg hk,
    State.finishReturn_cooldown (by rwa [header]) returning, State.endCooldown_eq]
  by_cases h0 : (s.activeProfile e).cooldown.getD 0 = 0 <;> simp [h0]

/-- Settles O17: the element is vacated, then its kind decides. -/
theorem claimEndsByOneMechanism : Obligations.ClaimEndsByOneMechanism := by
  intro e cause s
  refine ⟨fun h => State.endClaim_unheld h cause, ?_⟩
  intro r hr hf hj x cooldown late
  have kept := State.vacate_arbitrates e r cause s
  have element := State.vacate_element e r cause s
  rw [Element.claimEnded_eq] at element
  have claim : (s.vacate e r cause).claim e = ⟨.returning, (s.robot r).alliance, (s.claim e).waiters⟩ := by
    rw [State.claim, element]
  have isLate : late ↔ cause.beforeTick = true ∧ x.timer = ⟨true, 0⟩ := by
    rw [Cause.beforeTick_iff hf hj]
    exact and_comm
  refine ⟨s.vacate e r cause, claim, fun hk => ?_, fun hk => ?_, fun hd hb => ?_, State.vacate_handed e r cause s,
    State.vacate_mirrors e r cause s, State.vacate_local e r cause s, kept.plays.same, kept.scores, kept.plays.rosters,
    kept.plays.ports, fun hk => ?_, fun hk h0 hl => ?_, fun hk h0 hl => ?_, fun hk h0 => ?_⟩
  · rw [claim, element]
    simp [x, show (s.element e).header.kind = .dispenser from hk]
  · rw [claim, element]
    simp [x, show (s.element e).header.kind = .beacon from hk]
  · rw [claim, element]
    simp [x, show (s.element e).header.kind ≠ .dispenser from hd, show (s.element e).header.kind ≠ .beacon from hb]
  · rw [State.endClaim_held hr, State.leaveHolder_eq, if_pos hk]
    rfl
  · rw [State.endClaim_cooldown hr hk, if_neg (Nat.pos_iff_ne_zero.mp h0), if_pos (isLate.mp hl)]
  · rw [State.endClaim_cooldown hr hk, if_neg (Nat.pos_iff_ne_zero.mp h0), if_neg (mt isLate.mpr hl)]
    rfl
  · rw [State.endClaim_cooldown hr hk, if_pos h0]

/-! ## The roster removes a robot (R71, R72) -/

section
variable {s : State} {r : Robot}

theorem State.removeRobot_holder (h : s.OneSeat) {e : Elem} (hh : (s.claim e).state = .held r) (c : Cause) :
    s.removeRobot r c = s.endClaim e c := by
  rw [State.removeRobot, State.unseat, h.heldBy hh, State.endClaim_held hh]
theorem State.removeRobot_waiter (h : s.OneSeat) {e : Elem} {k : Nat} (hw : (s.claim e).waiters[k]? = some r) (c : Cause) :
    s.removeRobot r c = s.dropWaiter e r c.reason (k + 1) := by
  have member : r ∈ (s.claim e).waiters := List.mem_of_getElem? hw
  have held : s.heldBy r = none := State.heldBy_eq_none.mpr fun e' hh => h.not_waits hh member
  have waits : s.waitOf r = some (e, k + 1) := h.waitOf (positionIn_of_getElem? (h.nodup e) hw)
  rw [State.removeRobot, State.unseat, held]
  dsimp only
  rw [waits]
  rfl
theorem State.removeRobot_absent (h : s.places r = 0) (c : Cause) : s.removeRobot r c = s := by
  have absent := State.places_eq_zero.mp h
  have held : s.heldBy r = none := State.heldBy_eq_none.mpr fun e k => absent e (.inl k)
  have waits : s.waitOf r = none := State.waitOf_eq_none.mpr fun e k => absent e (.inr k)
  rw [State.removeRobot, State.unseat, held]
  dsimp only
  rw [waits]

end

/-- Dropping one robot from a list without repetition erases its place. -/
theorem filter_ne_eq_eraseIdx {ws : List Robot} {k : Nat} {r : Robot} (distinct : ws.Nodup)
    (h : ws[k]? = some r) : ws.filter (fun w => decide (w ≠ r)) = ws.eraseIdx k := by
  obtain ⟨hk, rfl⟩ := List.getElem?_eq_some_iff.mp h
  rw [← distinct.erase_getElem k hk, distinct.erase_eq_filter]
  congr 1
  funext w
  simp [bne, BEq.beq]

/-- Settles O19: the removal by the seat of the robot. -/
theorem rosterRemovesRobot : Obligations.RosterRemovesRobot := by
  intro r cause s hclaims
  have h := (State.claimsOk_iff.mp hclaims).oneSeat
  refine ⟨fun e hh => State.removeRobot_holder h hh cause, fun e k hw => ?_, fun h0 => State.removeRobot_absent h0 cause⟩
  have dropped := State.removeRobot_waiter h hw cause
  have kept := State.dropWaiter_arbitrates e r cause.reason (k + 1) s
  refine ⟨?_, ?_, State.removeRobot_places h r cause, ?_⟩
  · rw [dropped, State.dropWaiter_element, if_pos rfl, filter_ne_eq_eraseIdx (h.nodup e) hw]
  · rw [dropped]
    exact State.dropWaiter_local e r cause.reason (k + 1) s
  · rw [dropped]
    exact ⟨s.setClaim_raise_handed e _ .dropped (some cause.reason) (some r) _, kept.plays.same, kept.scores,
      kept.plays.rosters, kept.plays.ports⟩

end Sys2Proof.Machine

namespace Sys2Proof.Machine

/-! # The precedence key (R76) -/

/-- The key of a waiter goes before another one's or is the same, value by value. -/
def keyLe (a b : Nat × Nat × Nat) : Prop := a.1 < b.1 ∨ a.1 = b.1 ∧ (a.2.1 < b.2.1 ∨ a.2.1 = b.2.1 ∧ a.2.2 ≤ b.2.2)

theorem keyLe_refl (a : Nat × Nat × Nat) : keyLe a a := .inr ⟨rfl, .inr ⟨rfl, le_rfl⟩⟩
theorem keyLe_trans {a b c : Nat × Nat × Nat} (h : keyLe a b) (k : keyLe b c) : keyLe a c := by
  unfold keyLe at *
  omega
theorem keyLe_of_before {a b : Nat × Nat × Nat} (h : keyBefore a b = true) : keyLe a b := by
  simp only [keyBefore, Bool.or_eq_true, Bool.and_eq_true, decide_eq_true_eq] at h
  unfold keyLe
  omega
theorem keyLe_of_not_before {a b : Nat × Nat × Nat} (h : ¬ keyBefore a b = true) : keyLe b a := by
  simp only [keyBefore, Bool.or_eq_true, Bool.and_eq_true, decide_eq_true_eq] at h
  unfold keyLe
  omega

/-- The best of a list from position `k` on is the best so far or one of the list, and its key goes before all of these. -/
theorem State.bestOf_spec (s : State) (e : Elem) (k : Nat) (best : Robot × Nat) (ws : List Robot) :
    ∃ p, (s.bestOf e k best ws, p) ∈ best :: ws.zipIdx k ∧
      ∀ i ∈ best :: ws.zipIdx k, keyLe (s.precedence e (s.bestOf e k best ws) p) (s.precedence e i.1 i.2) := by
  induction ws generalizing k best with
  | nil => exact ⟨best.2, by simp [State.bestOf], by simp [State.bestOf, keyLe_refl]⟩
  | cons r ws ih =>
    rw [List.zipIdx_cons]
    unfold State.bestOf
    split
    · rename_i hb
      obtain ⟨p, hm, hle⟩ := ih (k + 1) (r, k)
      refine ⟨p, List.mem_cons_of_mem _ hm, fun i hi => ?_⟩
      rcases List.mem_cons.mp hi with rfl | hi
      · exact keyLe_trans (hle (r, k) List.mem_cons_self) (keyLe_of_before hb)
      · exact hle i hi
    · rename_i hb
      obtain ⟨p, hm, hle⟩ := ih (k + 1) best
      refine ⟨p, ?_, fun i hi => ?_⟩
      · rcases List.mem_cons.mp hm with hm | hm
        · exact List.mem_cons.mpr (.inl hm)
        · exact List.mem_cons_of_mem _ (List.mem_cons_of_mem _ hm)
      · rcases List.mem_cons.mp hi with rfl | hi
        · exact hle i List.mem_cons_self
        · rcases List.mem_cons.mp hi with rfl | hi
          · exact keyLe_trans (hle best List.mem_cons_self) (keyLe_of_not_before hb)
          · exact hle i (List.mem_cons_of_mem _ hi)
/-- The waiter chosen stands in the list, and its key goes before every other one's (R76). -/
theorem State.nextHolder_spec {s : State} {e : Elem} {r : Robot} (h : s.nextHolder e = some r) :
    ∃ k, (s.claim e).waiters[k]? = some r ∧ ∀ j w, (s.claim e).waiters[j]? = some w →
      keyLe (s.precedence e r (k + 1)) (s.precedence e w (j + 1)) := by
  unfold State.nextHolder at h
  split at h
  · cases h
  · rename_i r0 ws hw
    rw [hw]
    have list : (r0, 1) :: ws.zipIdx 2 = (r0 :: ws).zipIdx 1 := rfl
    obtain ⟨p, hm, hle⟩ := s.bestOf_spec e 2 (r0, 1) ws
    rw [Option.some.inj h, list] at hm hle
    obtain ⟨hp, hk⟩ := List.mk_mem_zipIdx_iff_le_and_getElem?_sub.mp hm
    refine ⟨p - 1, hk, fun j w hj => ?_⟩
    rw [Nat.sub_add_cancel hp]
    exact hle (w, j + 1) (List.mk_mem_zipIdx_iff_le_and_getElem?_sub.mpr ⟨Nat.le_add_left 1 j, by simpa using hj⟩)

/-- Settles O20: the choice goes through the list once, keeping the best key so far. -/
theorem precedenceKeyChooses : Obligations.PrecedenceKeyChooses := by
  intro s e ws flag strikes
  refine ⟨State.nextHolder_eq_none, fun r hr => ?_⟩
  obtain ⟨k, hk, hle⟩ := State.nextHolder_spec hr
  refine ⟨k, hk, fun j w hj => ?_⟩
  have flags : ∀ r n, (s.precedence e r n).1 = flag r := fun r n => by
    cases hl : (s.claim e).lastAlliance <;> simp [State.precedence, flag, hl]
  have key := hle j w hj
  simp only [keyLe, flags] at key
  change flag r < flag w ∨ flag r = flag w ∧ (strikes r < strikes w ∨ strikes r = strikes w ∧ k + 1 ≤ j + 1) at key
  omega

end Sys2Proof.Machine

namespace Sys2Proof.Machine

/-! # The end of RETURNING and the expiries of timer and unit (R69, R75, R77, R118, R120, R132) -/

/-- The pending value that a start in RATE keeps (R120, R127). -/
theorem PulseUnit.startRate_eq (u : PulseUnit) (n : Nat) : u.startRate n =
    ⟨.rate, n, n, u.half, false, true, match u.pendingTune with
      | some (v, .rate) => some (v, .rate)
      | _ => none⟩ := by
  unfold PulseUnit.startRate PulseUnit.keptTune PulseUnit.tunedTo
  cases u.pendingTune with
  | none => rfl
  | some t =>
    obtain ⟨k, m⟩ := t
    cases m <;> rfl
theorem ClaimTimer.load_seconds (n : Nat) :
    ClaimTimer.load (n * 1000) = if n = 0 then ⟨false, 0⟩ else ⟨true, n * 1000⟩ := by
  by_cases h : n = 0 <;> simp [ClaimTimer.load, ClaimTimer.stopped, h]

/-- An element that is granted to a robot (R63, R77, R101, R108, R130). -/
def Element.heldFor (x : Element) (r : Robot) (active : Profile) : Element :=
  { x with
    claim := ⟨.held r, x.claim.lastAlliance, x.claim.waiters.filter (· ≠ r)⟩
    timer := if active.hold.getD 0 = 0 then ⟨false, 0⟩ else ⟨true, active.hold.getD 0 * 1000⟩ }
theorem Element.granted_eq (x : Element) (active : Profile) : x.granted active =
    match x.header.kind with
    | .dispenser => { x with shots := 0, quotaMark := false }
    | .beacon => { x with
        pulse := ⟨.rate, active.interval.getD 0, active.interval.getD 0, x.pulse.half, false, true,
          match x.pulse.pendingTune with
          | some (v, .rate) => some (v, .rate)
          | _ => none⟩
        test := none }
    | .none | .gate | .goal => x := by
  unfold Element.granted
  cases x.header.kind with
  | beacon => exact congrArg (fun u => { x with pulse := u, test := none }) (PulseUnit.startRate_eq _ _)
  | none | gate | goal | dispenser => rfl
theorem State.makeHolder_heldFor (e : Elem) (r : Robot) (s : State) :
    (s.makeHolder e r).element e = (s.element e).heldFor r (s.activeProfile e) := by
  rw [State.makeHolder_element, Profile.holdS, ClaimTimer.load_seconds]
  rfl
theorem State.tellGrant_element {e : Elem} {r : Robot} {s t : State} (h : (s.makeHolder e r).Arbitrates t)
    (he : t.element e = (s.makeHolder e r).element e) :
    (t.tellGrant e).element e = ((s.element e).heldFor r (s.activeProfile e)).granted (s.activeProfile e) := by
  rw [State.tellGrant, State.element_modifyElement_self, he, State.makeHolder_heldFor, h.plays.activeProfile,
    (State.makeHolder_arbitrates e r s).plays.activeProfile]

/-- The mirrors after the write of an element that keeps its claim record. -/
theorem State.Mirrored.modifyElement {s : State} (h : s.Mirrored) {e : Elem} {f : Element → Element}
    (hc : (f (s.element e)).claim = (s.element e).claim) : (s.modifyElement e f).Mirrored :=
  h.of_same (State.modifyElement_claims hc) fun _ => ⟨rfl, rfl⟩
theorem State.Mirrored.raise {s : State} (h : s.Mirrored) (k : NoticeKind) (re : Option Reason) (r : Option Robot)
    (e : Option Elem) (v : Option Int) : (s.raise k re r e v).Mirrored := h.of_same (fun _ => rfl) fun _ => ⟨rfl, rfl⟩
theorem State.makeHolder_mirrors (e : Elem) (r : Robot) (s : State) : (s.makeHolder e r).Mirrored :=
  (State.setClaim_mirrored e _ s).modifyElement rfl
theorem State.grantWaiter_mirrors (e : Elem) (r : Robot) (s : State) : (s.grantWaiter e r).Mirrored :=
  ((State.makeHolder_mirrors e r s).raise _ _ _ _ _).modifyElement (Element.granted_claim _ _)

section
variable {e : Elem} {s : State}

theorem State.settleReturn_shut (h : (s.activeProfile e).use ≠ .claim) :
    s.settleReturn e = ((s.dropAll e .phase).setClaimState e .inert).setTimer e .stopped := if_neg h
theorem State.settleReturn_free (h : (s.activeProfile e).use = .claim) (hw : (s.claim e).waiters = []) :
    s.settleReturn e = (s.setClaimState e .free).setTimer e .stopped := by
  rw [State.settleReturn, if_pos h, State.nextHolder_eq_none.mpr hw]
theorem State.settleReturn_grant {r : Robot} (h : (s.activeProfile e).use = .claim) (hr : s.nextHolder e = some r) :
    s.settleReturn e = s.grantWaiter e r := by rw [State.settleReturn, if_pos h, hr]
theorem State.settleReturn_mirrors : (s.settleReturn e).Mirrored := by
  unfold State.settleReturn
  split
  · split
    · exact (State.setClaim_mirrored e _ s).modifyElement rfl
    · exact State.grantWaiter_mirrors e _ s
  · exact (State.setClaim_mirrored e _ _).modifyElement rfl
theorem State.grantWaiter_tells (r : Robot) :
    s.Tells [s.notice .grant none (some r) (some e) (some (((s.activeProfile e).holdS : Nat) : Int))]
      (s.grantWaiter e r) := by
  have made : s.Tells [] (s.makeHolder e r) := (State.setClaim_tells e _ s).trans (State.setTimer_tells e _ _)
  have raised := made.trans
    (State.raise_tells .grant none (some r) (some e) (some (((s.activeProfile e).holdS : Nat) : Int)) _)
  rw [made.keeps.notice] at raised
  exact raised.trans (State.modifyElement_tells (Element.granted_samePlan _ _))

/-! ## The commands -/

/-- The end of a return that needs no time (R73). -/
theorem State.finishReturn_due (h : (s.element e).returnDue = true) : s.finishReturn e = s.settleReturn e := if_pos h
theorem State.finishReturn_idle (h : (s.element e).returnDue = false) : s.finishReturn e = s :=
  if_neg (by simp [h])
/-- The return of a gate is at its end exactly at rest (R73). -/
theorem Element.returnDue_gate {x : Element} (hk : x.header.kind = .gate) :
    x.returnDue = (decide (x.claim.state = .returning) && decide (x.motion = .atRest)) := by
  rw [Element.returnDue, hk]
theorem Element.returnDue_other {x : Element} (hk : x.header.kind ≠ .gate) :
    x.returnDue = (decide (x.claim.state = .returning) && !x.timer.running) := by
  unfold Element.returnDue
  split
  · exact absurd ‹_› hk
  all_goals rfl
theorem Element.arrivalDue_other {x : Element} (hk : x.header.kind ≠ .gate) : x.arrivalDue = false := by
  simp [Element.arrivalDue, hk]

/-- The end of RETURNING alone (R75). -/
theorem State.exec_returnEnd (hs : s.Runs) (hr : (s.claim e).state = .returning)
    (hg : (s.element e).header.kind = .gate → (s.element e).motion = .atRest)
    (ht : (s.element e).timer.running = false) : exec (.returnEnd e) s = .next (s.settleReturn e) := by
  have still : (s.element e).arrivalDue = false := by
    by_cases hk : (s.element e).header.kind = .gate
    · simp [Element.arrivalDue, hg hk, Motion.moving]
    · exact Element.arrivalDue_other hk
  have ends : (s.element e).returnEnds = true := by
    rw [Element.returnEnds, ← State.claim, hr]
    cases hk : (s.element e).header.kind with
    | gate => simp [hg hk]
    | none | dispenser | goal | beacon => simp [ht]
  rw [exec_event_due rfl hs ends, State.takeReturnEnd]
  simp [still, ClaimTimer.due, ht]
/-- The end of RETURNING with the arrival that brings it (R93). -/
theorem State.exec_returnEnd_arriving (hs : s.Runs) (hr : (s.claim e).state = .returning)
    (hk : (s.element e).header.kind = .gate) (hm : (s.element e).motion = .movingBack)
    (h0 : (s.element e).senseActive .s0 = true) :
    exec (.returnEnd e) s = .next ((s.modifyElement e (Element.arrive .back)).settleReturn e) := by
  have arrives : (s.element e).arrivalDue = true := by simp [Element.arrivalDue, hk, hm, Motion.moving, limitOf, h0]
  have ends : (s.element e).returnEnds = true := by
    rw [Element.returnEnds, ← State.claim, hr, hk]
    simp [hm, arrives]
  rw [exec_event_due rfl hs ends, State.takeReturnEnd]
  rw [if_pos arrives, State.takeArrival, hm]
  refine congrArg _ (State.finishReturn_due ?_)
  rw [State.element_modifyElement_self, Element.returnDue_gate (x := Element.arrive .back _) hk]
  exact Bool.and_eq_true_iff.mpr ⟨decide_eq_true hr, rfl⟩
/-- The end of RETURNING with the cooldown's expiry that brings it (R132). -/
theorem State.exec_returnEnd_cooled (hs : s.Runs) (hr : (s.claim e).state = .returning)
    (hk : (s.element e).header.kind ≠ .gate) (ht : (s.element e).timer = ⟨true, 0⟩) :
    exec (.returnEnd e) s = .next ((s.setTimer e ⟨false, 0⟩).settleReturn e) := by
  have ends : (s.element e).returnEnds = true := by
    rw [Element.returnEnds, ← State.claim, hr, ht]
    cases k : (s.element e).header.kind with
    | gate => exact absurd k hk
    | none | dispenser | goal | beacon => rfl
  rw [exec_event_due rfl hs ends, State.takeReturnEnd]
  rw [if_neg (by simp [Element.arrivalDue_other hk]), if_pos (by rw [ht]; rfl), State.timerExpiry,
    State.setTimer_claim, hr]
  exact congrArg _ (State.finishReturn_cooldown hk hr ⟨false, 0⟩)

end

/-- Settles O21: the three ways to the end of RETURNING, then its three outcomes. -/
theorem returnEndSettlesElement : Obligations.ReturnEndSettlesElement := by
  intro e s x c active gate rate t hr
  have kept := State.settleReturn_arbitrates e s
  refine ⟨fun hs hg ht => State.exec_returnEnd hs hr hg ht, fun hs hk hm h0 => State.exec_returnEnd_arriving hs hr hk hm h0,
    fun hs hk ht => State.exec_returnEnd_cooled hs hr hk ht, fun hu => ?_, fun hu hw => ?_, ?_, State.settleReturn_mirrors,
    State.settleReturn_local e s, kept.plays.same, kept.scores, kept.plays.rosters, kept.plays.ports⟩
  · have shut : t = _ := State.settleReturn_shut hu
    have told := ((State.dropWaiters_tells e .phase (fun _ => false) s).trans (State.setClaimState_tells e .inert _)).trans
      (State.setTimer_tells e .stopped _)
    rw [List.append_nil, List.append_nil, State.drops_all] at told
    refine ⟨?_, shut ▸ told.handed⟩
    rw [shut, State.setTimer, State.element_modifyElement_self, State.setClaimState, State.setClaim_element, if_pos rfl,
      State.dropAll_claim, State.dropAll, State.dropWaiters_element, if_pos rfl]
    rfl
  · have free : t = _ := State.settleReturn_free hu hw
    refine ⟨?_, by rw [free]; rfl⟩
    rw [free, State.setTimer, State.element_modifyElement_self, State.setClaimState, State.setClaim_element, if_pos rfl]
    change { x with claim := ⟨.free, c.lastAlliance, c.waiters⟩, timer := _ } = _
    rw [hw]
    rfl
  · intro r hu hn y
    have granted : t = s.grantWaiter e r := State.settleReturn_grant hu hn
    refine ⟨?_, granted ▸ (State.grantWaiter_tells r).single⟩
    have element : t.element e = (x.heldFor r active).granted active :=
      granted ▸ State.tellGrant_element (State.raise_arbitrates _ _ _ _ _ _) rfl
    rw [element, Element.granted_eq]
    rfl

/-! ## Claim timer and SHOT (R69, R118, R132) -/

section
variable {e : Elem} {s : State}

theorem State.exec_claimTimerExpiry (hs : s.Runs) (ht : (s.element e).timer = ⟨true, 0⟩) :
    exec (.claimTimerExpiry e) s = .next (s.timerExpiry e) :=
  exec_event_due rfl hs (by rw [ht]; rfl)
theorem State.timerExpiry_held {r : Robot} (h : (s.claim e).state = .held r) :
    s.timerExpiry e = (s.setTimer e ⟨false, 0⟩).endClaim e .expired := by
  rw [State.timerExpiry, State.setTimer_claim, h]
  rfl
theorem State.timerExpiry_returning (h : (s.claim e).state = .returning) :
    s.timerExpiry e = (s.setTimer e ⟨false, 0⟩).finishReturn e := by
  rw [State.timerExpiry, State.setTimer_claim, h]
  rfl
theorem State.timerExpiry_idle (hh : (s.claim e).state.holder = none) (hr : (s.claim e).state ≠ .returning) :
    s.timerExpiry e = s.setTimer e ⟨false, 0⟩ := by
  rw [State.timerExpiry, State.setTimer_claim]
  split
  · rename_i r k; simp [k, ClaimState.holder] at hh
  · exact absurd ‹_› hr
  all_goals rfl
/-- The return of an element whose timer is stopped ends but for a gate that is not at rest (R73). -/
theorem State.stopped_returnDue (hr : (s.claim e).state = .returning) :
    ((s.setTimer e ⟨false, 0⟩).element e).returnDue = true ↔
      ((s.element e).header.kind = .gate → (s.element e).motion = .atRest) := by
  have stopped : (s.setTimer e ⟨false, 0⟩).element e = { s.element e with timer := ⟨false, 0⟩ } :=
    State.element_modifyElement_self _ _ _
  have returning : (s.element e).claim.state = .returning := hr
  by_cases hk : (s.element e).header.kind = .gate
  · rw [Element.returnDue_gate (by rw [stopped]; exact hk), stopped]
    simp [returning, hk]
  · rw [Element.returnDue_other (by rw [stopped]; exact hk), stopped]
    simp [returning, hk]

theorem State.exec_shotExpiry (hs : s.Runs) (hm : (s.element e).pulse.mode = .shot)
    (h0 : (s.element e).pulse.count = 0) : exec (.shotExpiry e) s = .next (s.shotExpiry e) :=
  exec_event_due rfl hs (by simp [PulseUnit.shotDue, hm, h0])
/-- A unit whose SHOT has expired (R118). -/
def Element.shotEnded (x : Element) : Element := { x with pulse := x.pulse.shotEnd, test := none }
theorem State.modifyElement_modifyElement (e : Elem) (f g : Element → Element) (s : State) :
    (s.modifyElement e f).modifyElement e g = s.modifyElement e fun x => g (f x) := by
  rw [State.modifyElement, State.element_modifyElement_self]
  simp [State.modifyElement, State.setElement]
/-- A SHOT expiry goes to its owner (R95, R101, R118, R141). -/
theorem State.shotExpiry_eq : s.shotExpiry e =
    if (s.element e).test.isSome = true then s.modifyElement e Element.shotEnded
    else match (s.element e).header.kind with
      | .gate => if (s.element e).motion.moving.isSome = true then (s.modifyElement e Element.shotEnded).jam e
          else s.modifyElement e Element.shotEnded
      | .dispenser => if (s.element e).quotaMark = true then
            (s.modifyElement e fun x => { x.shotEnded with quotaMark := false }).endClaim e .quota
          else s.modifyElement e Element.shotEnded
      | .none | .goal | .beacon => s.modifyElement e Element.shotEnded := by
  unfold State.shotExpiry
  dsimp only
  rw [State.element_modifyElement_self]
  split
  · rfl
  · cases k : (s.element e).header.kind with
    | dispenser =>
      dsimp only
      rw [State.modifyElement_modifyElement]
      rfl
    | none | gate | goal | beacon => rfl

end

/-- Settles O22: the claim timer by the claim state, the SHOT by its owner. -/
theorem timerAndShotExpiriesReachOwners : Obligations.TimerAndShotExpiriesReachOwners := by
  intro e s hs x
  refine ⟨fun ht => ?_, fun hm h0 => ?_⟩
  · have run := State.exec_claimTimerExpiry hs ht
    refine ⟨fun hh => ?_, fun hr hg => ?_, fun hr hk hm => ?_, fun hh hr => ?_⟩
    · obtain ⟨r, hr⟩ := ClaimState.holder_isSome.mp hh
      rw [run, State.timerExpiry_held hr]
      rfl
    · rw [run, State.timerExpiry_returning hr, State.finishReturn_due ((State.stopped_returnDue hr).mpr hg)]
      rfl
    · have waits := mt (State.stopped_returnDue hr).mp fun k => hm (k hk)
      rw [run, State.timerExpiry_returning hr, State.finishReturn_idle (Bool.not_eq_true _ ▸ waits)]
      rfl
    · rw [run, State.timerExpiry_idle hh hr]
      rfl
  · intro idle jams spends
    have run := State.exec_shotExpiry hs hm h0
    rw [State.shotExpiry_eq] at run
    refine ⟨fun ⟨ht, hk, hd⟩ => ?_, fun ⟨ht, hk, hq⟩ => ?_, fun hj hsp => ?_⟩
    · have moves : (s.element e).motion.moving.isSome = true := by
        rcases hd with k | k <;> rw [show (s.element e).motion = _ from k] <;> rfl
      rw [run, if_neg (by simp [show (s.element e).test = none from ht]), show (s.element e).header.kind = .gate from hk]
      dsimp only
      rw [if_pos moves]
      rfl
    · rw [run, if_neg (by simp [show (s.element e).test = none from ht]),
        show (s.element e).header.kind = .dispenser from hk]
      dsimp only
      rw [if_pos hq]
      rfl
    · rw [run]
      split
      · rfl
      · rename_i ht
        have ht : x.test = none := by simpa using ht
        split
        · rename_i hk
          rw [if_neg fun hd => hj ⟨ht, hk, ?_⟩]
          · rfl
          · change x.motion.moving.isSome = true at hd
            cases k : x.motion <;> simp [k, Motion.moving] at hd ⊢
        · rename_i hk
          rw [if_neg fun hq => hsp ⟨ht, hk, hq⟩]
          rfl
        all_goals rfl

end Sys2Proof.Machine

namespace Sys2Proof.Machine

/-! # The requests on claims (R62 to R67) -/

/-- A request of a bridge that is heard on a bridge port. -/
theorem exec_bridge {c : Instr} {p : Port} {code : Byte} {body : State → State × Answer}
    (h : requestOf c = some (p, code, body)) {n k : Nat} (hrow : requestRow code = some (rowBridge n k)) {s u : State}
    (hh : s.Hears p) (hr : s.role p = .bridge) (hu : s.examined p = u) {t : State} {a : Answer} (hb : body u = (t, a)) :
    exec c s = .next (t.answered p (a.status.code :: padded k a.bytes)) :=
  exec_request_open h hrow hh (by rw [hr]; rfl) (hu ▸ hb)
theorem robotOf_byte (r : Robot) : robotOf (byte r.val) = some r :=
  robotOf_some (by rw [byte_toNat]; omega)
theorem elementOf_byte (e : Elem) : elementOf (byte e.val) = some e :=
  elementOf_some (by rw [byte_toNat]; omega)
theorem State.isYours_iff {s : State} {p : Port} {r : Robot} : s.isYours p r = true ↔ (s.robot r).bound = some p := by
  simp [State.isYours]
/-- A profile that lets a robot claim: its use is CLAIM and its mask names the robot's alliance (R62). -/
theorem State.mayUse_iff {s : State} {active : Profile} {r : Robot} : s.mayUse active r = true ↔
    active.use = .claim ∧ ∃ a, (s.robot r).alliance = some a ∧ (active.mask.getD 0).getLsbD a.val = true := by
  cases h : (s.robot r).alliance <;> simp [State.mayUse, Profile.allows, h]

/-! ## CLAIM -/

/-- CLAIM with an argument out of range (R62). -/
theorem State.claimRequest_badArg {s : State} {p : Port} {rb eb : Byte} (h : 16 ≤ rb.toNat ∨ 24 ≤ eb.toNat) :
    s.claimRequest p rb eb = (s, refuse .badArg) := by
  unfold State.claimRequest
  split
  · rename_i hr he
    rcases h with h | h
    · simp [robotOf_none h] at hr
    · simp [elementOf_none h] at he
  · rfl

/-- What CLAIM does once the element's use permits it: the robot has a place there, has one elsewhere, or takes one
(R62 to R64). -/
def State.placeClaim (r : Robot) (e : Elem) (s : State) : State × Answer :=
  if (s.claim e).state = .held r then (s, ⟨.already, [indexByte e, 0, 0]⟩)
  else if (s.heldBy r).isSome then (s, refuse .oneHeld)
  else match s.waitOf r with
    | some (e', k) => if e' = e then (s, ⟨.already, [indexByte e, 0, byte k]⟩) else (s, refuse .oneWait)
    | none =>
      match (s.claim e).state with
      | .free => s.grantClaim r e
      | .held _ | .returning => s.queueClaim r e
      | .inert | .blocked _ => (s, refuse .notOpen)

section
variable {s : State} {r : Robot} {e : Elem}

theorem State.placeClaim_holder (h : (s.claim e).state = .held r) :
    s.placeClaim r e = (s, ⟨.already, [indexByte e, 0, 0]⟩) := if_pos h
theorem State.placeClaim_holds (h : (s.claim e).state ≠ .held r) (hb : s.heldBy r ≠ none) :
    s.placeClaim r e = (s, refuse .oneHeld) := by
  rw [State.placeClaim, if_neg h, if_pos (Option.isSome_iff_ne_none.mpr hb)]
theorem State.placeClaim_waits (hb : s.heldBy r = none) {e' : Elem} {k : Nat} (hw : s.waitOf r = some (e', k)) :
    s.placeClaim r e = if e' = e then (s, ⟨.already, [indexByte e, 0, byte k]⟩) else (s, refuse .oneWait) := by
  rw [State.placeClaim, if_neg (State.heldBy_eq_none.mp hb e), if_neg (by simp [hb]), hw]
theorem State.placeClaim_granted (hb : s.heldBy r = none) (hw : s.waitOf r = none) (hc : (s.claim e).state = .free) :
    s.placeClaim r e = s.grantClaim r e := by
  rw [State.placeClaim, if_neg (State.heldBy_eq_none.mp hb e), if_neg (by simp [hb]), hw, hc]
theorem State.placeClaim_queued (hb : s.heldBy r = none) (hw : s.waitOf r = none)
    (hc : (s.claim e).state.holder.isSome = true ∨ (s.claim e).state = .returning) :
    s.placeClaim r e = s.queueClaim r e := by
  rw [State.placeClaim, if_neg (State.heldBy_eq_none.mp hb e), if_neg (by simp [hb]), hw]
  rcases hc with hc | hc
  · obtain ⟨r', hr⟩ := ClaimState.holder_isSome.mp hc
    rw [hr]
  · rw [hc]
theorem State.placeClaim_local (r : Robot) (e : Elem) (s : State) :
    s.SameElementsBut e (s.placeClaim r e).1 ∧ s.Arbitrates (s.placeClaim r e).1 := by
  unfold State.placeClaim State.grantClaim State.queueClaim
  dsimp only
  repeat' split
  all_goals first
    | exact ⟨fun _ _ => rfl, .refl s⟩
    | exact ⟨(State.makeHolder_local _ _ s).trans (State.tellGrant_local _ _),
        (State.makeHolder_arbitrates _ _ s).trans (State.tellGrant_arbitrates _ _)⟩
    | exact ⟨State.setClaim_local _ _ s, State.setClaim_arbitrates _ _ s⟩

/-- CLAIM of a robot on an element, check by check (R62). -/
theorem State.claimRequest_eq (p : Port) : s.claimRequest p (byte r.val) (byte e.val) =
    if ¬ (s.robot r).bound = some p then (s, refuse .notYours)
    else if ¬ s.clock.state.isLive = true then (s, refuse .phase)
    else if ¬ s.enabled r = true then (s, refuse .notEnabled)
    else if (s.claim e).state.isBlocked = true then (s, refuse .blocked)
    else if ¬ s.mayUse (s.activeProfile e) r = true then (s, refuse .notOpen)
    else s.placeClaim r e := by
  rw [State.claimRequest, robotOf_byte, elementOf_byte]
  simp only [State.isYours, Bool.not_eq_true', decide_eq_false_iff_not, Bool.not_eq_true]
  rfl
/-- CLAIM of a robot that passes the checks up to the element's use. -/
theorem State.claimRequest_may {p : Port} (yours : (s.robot r).bound = some p) (live : s.clock.state.isLive = true)
    (able : s.enabled r = true) (opened : (s.claim e).state.isBlocked = false)
    (permitted : s.mayUse (s.activeProfile e) r = true) :
    s.claimRequest p (byte r.val) (byte e.val) = s.placeClaim r e := by
  rw [State.claimRequest_eq, if_neg (not_not.mpr yours), if_neg (not_not.mpr live), if_neg (not_not.mpr able),
    if_neg (by simp [opened]), if_neg (not_not.mpr permitted)]

end

/-- Settles O35: the checks one after the other. -/
theorem claimIsCheckedInOrder : Obligations.ClaimIsCheckedInOrder := by
  intro p s hh hrole
  generalize hu : s.examined p = v
  intro u
  have ran : ∀ {rb eb : Byte} (a : Answer), v.claimRequest p rb eb = (v, a) →
      exec (.claim p rb eb) s = .next (v.answered p (a.status.code :: padded 3 a.bytes)) := fun a hb =>
    exec_bridge (c := .claim p _ _) rfl rfl hh hrole hu hb
  refine ⟨fun rb eb h => ran (refuse .badArg) (State.claimRequest_badArg h), fun r e => ?_⟩
  intro c active yours live able opened permitted passed answers
  have may : passed → v.claimRequest p (byte r.val) (byte e.val) = v.placeClaim r e := fun ⟨hy, hl, ha, ho, hp⟩ =>
    State.claimRequest_may hy hl ha ho (State.mayUse_iff.mpr hp)
  have checked := State.claimRequest_eq (s := v) (r := r) (e := e) p
  refine ⟨fun hy => ran (refuse .notYours) ?_, fun hy hl => ran (refuse .phase) ?_,
    fun hy hl ha => ran (refuse .notEnabled) ?_, fun hy hl ha ho => ran (refuse .blocked) ?_,
    fun hy hl ha ho hp => ran (refuse .notOpen) ?_,
    fun hp hc => ran ⟨.already, [indexByte e, 0, 0]⟩ ((may hp).trans (State.placeClaim_holder hc)),
    fun hp hc hb => ran (refuse .oneHeld) ((may hp).trans (State.placeClaim_holds hc hb)),
    fun k hp hb hw => ran ⟨.already, [indexByte e, 0, byte k]⟩
      ((may hp).trans ((State.placeClaim_waits hb hw).trans (if_pos rfl))),
    fun e' k hp hb hw hne => ran (refuse .oneWait)
      ((may hp).trans ((State.placeClaim_waits hb hw).trans (if_neg hne)))⟩
  · rw [checked, if_pos hy]
  · rw [checked, if_neg (not_not.mpr hy), if_pos hl]
  · rw [checked, if_neg (not_not.mpr hy), if_neg (not_not.mpr hl), if_pos ha]
  · rw [checked, if_neg (not_not.mpr hy), if_neg (not_not.mpr hl), if_neg (not_not.mpr ha), if_pos (by simpa [opened] using ho)]
  · rw [checked, if_neg (not_not.mpr hy), if_neg (not_not.mpr hl), if_neg (not_not.mpr ha), if_neg (by simpa [opened] using ho),
      if_pos (mt State.mayUse_iff.mp hp)]

/-! ## The outcome of a CLAIM -/

/-- An answer changes the frame of its port alone. -/
theorem State.answered_same (p : Port) (bytes : List Byte) (s : State) :
    s.SameMatch (s.answered p bytes) ∧ s.SameScores (s.answered p bytes) :=
  ⟨⟨rfl, rfl, rfl, rfl, rfl, rfl, rfl, rfl⟩, ⟨rfl, rfl⟩⟩
theorem State.answered_ports {s t : State} (h : t.ports = s.ports) (p : Port) (bytes : List Byte) :
    (t.answered p bytes).ports = (s.answered p bytes).ports := by
  simp only [State.answered, State.modifyPort, State.setPort, State.port, h]

section
variable {s : State} {r : Robot} {e : Elem}

theorem State.grantClaim_element : (s.grantClaim r e).1.element e =
    ((s.element e).heldFor r (s.activeProfile e)).granted (s.activeProfile e) := State.tellGrant_element (.refl _) rfl
theorem State.grantClaim_mirrors : (s.grantClaim r e).1.Mirrored :=
  (State.makeHolder_mirrors e r s).modifyElement (Element.granted_claim _ _)
theorem State.queueClaim_room (h : (s.claim e).waiters.length ≤ 3) : s.queueClaim r e =
    (s.setClaim e { s.claim e with waiters := (s.claim e).waiters ++ [r] },
      ⟨.queued, [indexByte e, 0, byte ((s.claim e).waiters.length + 1)]⟩) := if_pos (Nat.lt_succ_of_le h)
theorem State.queueClaim_full (h : 4 ≤ (s.claim e).waiters.length) : s.queueClaim r e = (s, refuse .listFull) :=
  if_neg (Nat.not_lt.mpr h)

end

/-- Settles O34: the robot is granted or queued by the claim state. -/
theorem claimIsGrantedOrQueued : Obligations.ClaimIsGrantedOrQueued := by
  intro p s r e a hh hrole
  generalize hu : s.examined p = v
  intro u x active rate hy hl ha huse hal hmask hb hw
  have permitted : v.mayUse (v.activeProfile e) r = true := State.mayUse_iff.mpr ⟨huse, a, hal, hmask⟩
  have ran : ∀ {t : State} {b : Answer}, v.claimRequest p (byte r.val) (byte e.val) = (t, b) →
      exec (.claim p (byte r.val) (byte e.val)) s = .next (t.answered p (b.status.code :: padded 3 b.bytes)) := fun hb =>
    exec_bridge (c := .claim p _ _) rfl rfl hh hrole hu hb
  cases ho : (v.claim e).state.isBlocked with
  | true =>
    obtain ⟨b, blocked⟩ := ClaimState.isBlocked_iff.mp ho
    have refused : v.claimRequest p (byte r.val) (byte e.val) = (v, refuse .blocked) := by
      rw [State.claimRequest_eq, if_neg (not_not.mpr hy), if_neg (not_not.mpr hl), if_neg (not_not.mpr ha), if_pos ho]
    have shut : ¬ (x.claim.state = .free) ∧ ¬ (x.claim.state.holder.isSome = true ∨ x.claim.state = .returning) := by
      simp [x, u, show (v.element e).claim.state = _ from blocked, ClaimState.holder]
    have same := State.answered_same p ((refuse .blocked).status.code :: padded 3 (refuse .blocked).bytes) v
    refine ⟨_, ran refused, fun hc => absurd hc shut.1, fun hc => absurd hc shut.2, fun _ hc => ?_,
      fun _ _ => rfl, same.1, same.2, fun _ => rfl⟩
    exact (hc.elim (shut.2 ∘ .inl) fun k => k.elim shut.1 (shut.2 ∘ .inr)).elim
  | false =>
    obtain ⟨hlocal, kept⟩ := State.placeClaim_local r e v
    have placed := State.claimRequest_may hy hl ha ho permitted
    obtain ⟨t, b, ht⟩ : ∃ t b, v.placeClaim r e = (t, b) := ⟨_, _, rfl⟩
    have same := State.answered_same p (b.status.code :: padded 3 b.bytes) t
    have granted : x.claim.state = .free → (t, b) = v.grantClaim r e := fun hc =>
      ht.symm.trans (State.placeClaim_granted hb hw hc)
    have queued : x.claim.state.holder.isSome = true ∨ x.claim.state = .returning → (t, b) = v.queueClaim r e :=
      fun hc => ht.symm.trans (State.placeClaim_queued hb hw hc)
    rw [ht] at hlocal kept
    refine ⟨_, ran (placed.trans ht), fun hc => ?_, fun hc => ⟨fun hlen => ?_, fun hlen => ?_⟩, fun h1 h2 => ?_, hlocal,
      kept.plays.same.trans same.1, kept.scores.trans same.2, kept.plays.rosters⟩
    · obtain ⟨rfl, rfl⟩ := Prod.mk.inj (granted hc)
      refine ⟨?_, State.answered_ports rfl p _⟩
      rw [State.answered_element]
      exact State.grantClaim_element.trans (Element.granted_eq _ _)
    · obtain ⟨rfl, rfl⟩ := Prod.mk.inj ((queued hc).trans (State.queueClaim_room hlen))
      refine ⟨?_, State.answered_ports rfl p _⟩
      rw [State.answered_element, State.setClaim_element, if_pos rfl]
      rfl
    · obtain ⟨rfl, rfl⟩ := Prod.mk.inj ((queued hc).trans (State.queueClaim_full hlen))
      rfl
    · have mirrored : t.Mirrored := by
        by_cases hf : x.claim.state = .free
        · obtain ⟨rfl, rfl⟩ := Prod.mk.inj (granted hf)
          exact State.grantClaim_mirrors
        · have hc : x.claim.state.holder.isSome = true ∨ x.claim.state = .returning :=
            h2.elim .inl fun k => .inr (k.resolve_left hf)
          obtain ⟨rfl, rfl⟩ := Prod.mk.inj ((queued hc).trans (State.queueClaim_room (h1.resolve_left hf)))
          exact State.setClaim_mirrored e _ v
      exact mirrored.of_same (fun _ => rfl) fun _ => ⟨rfl, rfl⟩

end Sys2Proof.Machine

namespace Sys2Proof.Machine

/-! # RELEASE, WITHDRAW and FREE (R65 to R67) -/

section
variable {s : State} {p : Port} {r : Robot} {e : Elem}

theorem State.releaseRequest_badArg {rb eb : Byte} (h : 16 ≤ rb.toNat ∨ 24 ≤ eb.toNat) :
    s.releaseRequest p rb eb = (s, refuse .badArg) := by
  unfold State.releaseRequest
  split
  · rename_i hr he
    rcases h with h | h
    · simp [robotOf_none h] at hr
    · simp [elementOf_none h] at he
  · rfl
/-- RELEASE of a robot on an element, check by check (R65). -/
theorem State.releaseRequest_eq : s.releaseRequest p (byte r.val) (byte e.val) =
    if ¬ (s.robot r).bound = some p then (s, refuse .notYours)
    else if ¬ (s.clock.state.isLive = true ∨ s.clock.state = .halted) then (s, refuse .phase)
    else if (s.claim e).state = .held r then (s.endClaim e .released, accept [])
    else (s, refuse .notHolder) := by
  rw [State.releaseRequest, robotOf_byte, elementOf_byte]
  simp only [State.isYours, Bool.not_eq_true', decide_eq_false_iff_not, Bool.or_eq_false_iff, not_or, Bool.not_eq_true]
theorem State.withdrawRequest_badArg {rb : Byte} (h : 16 ≤ rb.toNat) :
    s.withdrawRequest p rb = (s, refuse .badArg) := by rw [State.withdrawRequest, robotOf_none h]
theorem State.withdrawRequest_notYours (h : ¬ (s.robot r).bound = some p) :
    s.withdrawRequest p (byte r.val) = (s, refuse .notYours) := by
  rw [State.withdrawRequest, robotOf_byte]
  exact if_pos (by simpa [State.isYours] using h)
/-- WITHDRAW of a robot of the port (R66). -/
theorem State.withdrawRequest_absent (h : (s.robot r).bound = some p) (hw : s.waitOf r = none) :
    s.withdrawRequest p (byte r.val) = (s, ⟨.already, []⟩) := by
  rw [State.withdrawRequest, robotOf_byte]
  dsimp only
  rw [if_neg (by simp [State.isYours, h]), hw]
theorem State.withdrawRequest_leaves (h : (s.robot r).bound = some p) {k : Nat} (hw : s.waitOf r = some (e, k)) :
    s.withdrawRequest p (byte r.val) =
      (s.setClaim e { s.claim e with waiters := (s.claim e).waiters.filter (· ≠ r) }, accept [indexByte e, byte k]) := by
  rw [State.withdrawRequest, robotOf_byte]
  dsimp only
  rw [if_neg (by simp [State.isYours, h]), hw]
theorem State.freeRequest_badArg {eb : Byte} (h : 24 ≤ eb.toNat) : s.freeRequest eb = (s, refuse .badArg) := by
  rw [State.freeRequest, elementOf_none h]
theorem State.freeRequest_held (h : (s.claim e).state.holder.isSome = true) :
    s.freeRequest (byte e.val) = (s.endClaim e .freed, accept []) := by
  obtain ⟨r, hr⟩ := ClaimState.holder_isSome.mp h
  rw [State.freeRequest, elementOf_byte]
  dsimp only
  rw [hr]
theorem State.freeRequest_unheld (h : (s.claim e).state.holder = none) :
    s.freeRequest (byte e.val) = (s, ⟨.already, []⟩) := by
  rw [State.freeRequest, elementOf_byte]
  dsimp only
  split
  · rename_i r hr; simp [hr, ClaimState.holder] at h
  all_goals rfl

end

/-- Settles O36: the checks of the three requests in their order. -/
theorem releaseWithdrawAndFree : Obligations.ReleaseWithdrawAndFree := by
  intro p s
  generalize hu : s.examined p = v
  intro u
  have released : ∀ {rb eb : Byte} (t : State) (a : Answer), s.Hears p → s.role p = .bridge →
      v.releaseRequest p rb eb = (t, a) →
      exec (.release p rb eb) s = .next (t.answered p (a.status.code :: padded 0 a.bytes)) := fun t a hh hr hb =>
    exec_bridge (c := .release p _ _) rfl rfl hh hr hu hb
  have withdrawn : ∀ {rb : Byte} (t : State) (a : Answer), s.Hears p → s.role p = .bridge →
      v.withdrawRequest p rb = (t, a) →
      exec (.withdraw p rb) s = .next (t.answered p (a.status.code :: padded 2 a.bytes)) := fun t a hh hr hb =>
    exec_bridge (c := .withdraw p _) rfl rfl hh hr hu hb
  refine ⟨?_, ?_, ?_, fun rb eb h hh hr => released v (refuse .badArg) hh hr (State.releaseRequest_badArg h),
    fun rb h hh hr => withdrawn v (refuse .badArg) hh hr (State.withdrawRequest_badArg h), fun eb h hh => ?_⟩
  · intro r e hh hr yours taken run
    have checked := State.releaseRequest_eq (s := v) (p := p) (r := r) (e := e)
    refine ⟨fun hy => released v (refuse .notYours) hh hr ?_, fun hy ht => released v (refuse .phase) hh hr ?_,
      fun hy ht hc => released v (refuse .notHolder) hh hr ?_,
      fun hy ht hc => released (v.endClaim e .released) (accept []) hh hr ?_⟩
    · rw [checked, if_pos hy]
    · rw [checked, if_neg (not_not.mpr hy), if_pos ht]
    · rw [checked, if_neg (not_not.mpr hy), if_neg (not_not.mpr ht), if_neg hc]
    · rw [checked, if_neg (not_not.mpr hy), if_neg (not_not.mpr ht), if_pos hc]
  · intro r hh hr yours run
    refine ⟨fun hy => withdrawn v (refuse .notYours) hh hr (State.withdrawRequest_notYours hy),
      fun hy hw => withdrawn v ⟨.already, []⟩ hh hr (State.withdrawRequest_absent hy hw), fun e k hy hw => ?_⟩
    exact withdrawn _ (accept [indexByte e, byte k]) hh hr (State.withdrawRequest_leaves hy hw)
  · intro hh
    generalize hw : s.examined 0 = w
    intro u e run
    refine ⟨fun hc => ?_, fun hc => ?_⟩
    · exact exec_referee (c := .free 0 _) rfl rfl hh hw (State.freeRequest_held hc)
    · exact exec_referee (c := .free 0 _) rfl rfl hh hw (State.freeRequest_unheld hc)
  · generalize hw : s.examined 0 = w
    exact exec_referee (c := .free 0 eb) rfl rfl hh hw (State.freeRequest_badArg h)

/-! # REARM and TUNE (R81, R103, R125) -/

/-- Writing the claim record that an element has changes nothing where the mirrors agree with the table. -/
theorem State.setClaim_self {s : State} (h : s.Mirrored) (e : Elem) : s.setClaim e (s.claim e) = s := by
  have same : s.modifyElement e (fun x => { x with claim := s.claim e }) = s := by
    have : s.elements.set e.val (s.element e) e.isLt = s.elements := Vector.set_getElem_self _
    change { s with elements := s.elements.set e.val (s.element e) e.isLt } = s
    rw [this]
  have mirrors : rewriteAll (fun r x => { x with held := s.heldBy r, waiting := s.waitOf r }) s.robots = s.robots := by
    refine Vector.ext fun i hi => ?_
    have get := rewriteAll_get (fun r (x : RobotRecord) => { x with held := s.heldBy r, waiting := s.waitOf r }) s.robots
      ⟨i, hi⟩
    obtain ⟨held, waiting⟩ := h ⟨i, hi⟩
    refine get.trans ?_
    rw [← held, ← waiting]
    rfl
  rw [State.setClaim, same, State.mirror, mirrors]

section
variable {s : State} {e : Elem}

/-- A BLOCKED element is rearmed: RETURNING, with its notice (R81). -/
def State.rearmed (e : Elem) (s : State) : State :=
  (s.setClaimState e .returning).raise .element (some .rearmed) none (some e) none
theorem State.rearmed_arbitrates (e : Elem) (s : State) : s.Arbitrates (s.rearmed e) :=
  (State.setClaimState_arbitrates e .returning s).trans (State.raise_arbitrates _ _ _ _ _ _)
theorem State.rearmed_claim : (s.rearmed e).claim e = { s.claim e with state := .returning } := by
  change (s.setClaim e _).claim e = _
  rw [State.setClaim_claim, if_pos rfl]
/-- A rearmed element enters RETURNING with a cooldown of 0: a gate begins its return (R73, R81). -/
theorem State.rearmed_enterReturning : (s.rearmed e).enterReturning e .stopped =
    if (s.element e).header.kind = .gate then ((s.rearmed e).setTimer e .stopped).beginReturn e
    else (s.rearmed e).setTimer e .stopped := by
  have again : (s.rearmed e).setClaimState e .returning = s.rearmed e := by
    have mirrored : (s.rearmed e).Mirrored := (State.setClaim_mirrored e _ s).raise _ _ _ _ _
    rw [State.setClaimState, State.rearmed_claim, ← State.rearmed_claim]
    exact State.setClaim_self mirrored e
  rw [State.enterReturning, again, ((State.rearmed_arbitrates e s).plays.plans e).header]
  split <;> simp [*]

/-- REARM takes the end of a return that needs no time, then a dispenser's feed where it is allowed (R81, R103). -/
theorem State.rearmElement_eq : s.rearmElement e =
    if (((s.rearmed e).enterReturning e .stopped).finishReturn e).feedAllowed e = true then
      (((s.rearmed e).enterReturning e .stopped).finishReturn e).modifyElement e
        (Element.openFeed ((((s.rearmed e).enterReturning e .stopped).finishReturn e).activeProfile e))
    else ((s.rearmed e).enterReturning e .stopped).finishReturn e := rfl
/-- What REARM makes of a gate (R81, R96). -/
theorem State.rearmElement_gate (hk : (s.element e).header.kind = .gate) : s.rearmElement e =
    (((s.rearmed e).setTimer e .stopped).beginReturn e).finishReturn e := by
  have kept := ((State.rearmed_arbitrates e s).trans (State.enterReturning_arbitrates e .stopped _)).trans
    (State.finishReturn_arbitrates e _)
  have shut : (((s.rearmed e).enterReturning e .stopped).finishReturn e).feedAllowed e = false := by
    rw [State.feedAllowed, (kept.plays.plans e).header]
    simp [hk]
  rw [State.rearmElement_eq, if_neg (by simp [shut]), State.rearmed_enterReturning, if_pos hk]
/-- What REARM makes of any other kind: its return ends at once (R73, R81). -/
theorem State.rearmElement_other (hk : (s.element e).header.kind ≠ .gate) : s.rearmElement e =
    if (((s.rearmed e).setTimer e .stopped).settleReturn e).feedAllowed e = true then
      (((s.rearmed e).setTimer e .stopped).settleReturn e).modifyElement e (Element.openFeed (s.activeProfile e))
    else ((s.rearmed e).setTimer e .stopped).settleReturn e := by
  have header := ((State.rearmed_arbitrates e s).plays.plans e).header
  have kept := ((State.rearmed_arbitrates e s).trans (State.setTimer_arbitrates e .stopped _)).trans
    (State.settleReturn_arbitrates e _)
  have ended : ((s.rearmed e).enterReturning e .stopped).finishReturn e =
      ((s.rearmed e).setTimer e .stopped).settleReturn e := by
    rw [State.rearmed_enterReturning, if_neg hk,
      State.finishReturn_cooldown (by rwa [header]) (by rw [State.rearmed_claim])]
    rfl
  rw [← kept.plays.activeProfile, ← ended, State.rearmElement_eq]

end

end Sys2Proof.Machine

namespace Sys2Proof.Machine

/-! ## The two requests -/

section
variable {s : State} {e : Elem} {eb : Byte}

theorem State.rearmRequest_badArg (h : 24 ≤ eb.toNat) : s.rearmRequest eb = (s, refuse .badArg) := by
  rw [State.rearmRequest, elementOf_none h]
/-- REARM of an element, check by check (R81). -/
theorem State.rearmRequest_eq (h : eb.toNat = e.val) : s.rearmRequest eb =
    if (s.stop (s.element e).header.group).asserted = true then (s, refuse .fieldActive)
    else if (s.claim e).state.isBlocked = true then
      (s.rearmElement e, accept [byte ((s.rearmElement e).claim e).state.code])
    else (s, refuse .badArg) := by rw [State.rearmRequest, elementOf_some h]

/-- A return that has ended without a grant leaves the element not BLOCKED (R75). -/
theorem State.settleReturn_shut_claim (h : (s.activeProfile e).use ≠ .claim) :
    ((s.settleReturn e).claim e).state = .inert := by
  rw [State.settleReturn_shut h, State.setTimer_claim, State.setClaimState, State.setClaim_claim, if_pos rfl]

/-- A rearmed element of another kind than GATE, its return ended (R75, R81). -/
def State.rearmSettled (e : Elem) (s : State) : State := ((s.rearmed e).setTimer e .stopped).settleReturn e
theorem State.rearmSettled_arbitrates (e : Elem) (s : State) : s.Arbitrates (s.rearmSettled e) :=
  ((State.rearmed_arbitrates e s).trans (State.setTimer_arbitrates e .stopped _)).trans
    (State.settleReturn_arbitrates e _)
theorem State.rearmSettled_feeds (hk : (s.element e).header.kind = .dispenser) :
    (s.rearmSettled e).feedAllowed e = true ↔ (s.activeProfile e).use = .auto := by
  have kept := State.rearmSettled_arbitrates e s
  rw [State.feedAllowed_iff (by rwa [(kept.plays.plans e).header]), kept.plays.activeProfile]
  refine ⟨And.left, fun hu => ⟨hu, ?_⟩⟩
  have written := (State.rearmed_arbitrates e s).trans (State.setTimer_arbitrates e .stopped _)
  have inert := State.settleReturn_shut_claim (s := (s.rearmed e).setTimer e .stopped) (e := e)
    (by rw [written.plays.activeProfile, hu]; nofun)
  change ((State.settleReturn e _).claim e).state.isBlocked = false
  rw [inert]
  rfl
theorem State.rearmElement_idle (hk : (s.element e).header.kind ≠ .gate)
    (hn : (s.element e).header.kind = .dispenser → (s.activeProfile e).use ≠ .auto) :
    s.rearmElement e = s.rearmSettled e := by
  rw [State.rearmElement_other hk]
  refine if_neg fun hf => ?_
  by_cases hd : (s.element e).header.kind = .dispenser
  · exact hn hd ((State.rearmSettled_feeds hd).mp hf)
  · have header := ((State.rearmSettled_arbitrates e s).plays.plans e).header
    rw [← State.rearmSettled, State.feedAllowed, header] at hf
    simp [hd] at hf
theorem State.rearmElement_feeds (hk : (s.element e).header.kind = .dispenser) (hu : (s.activeProfile e).use = .auto) :
    s.rearmElement e = (s.rearmSettled e).modifyElement e (Element.openFeed (s.activeProfile e)) := by
  rw [State.rearmElement_other (by simp [hk])]
  exact if_pos ((State.rearmSettled_feeds hk).mpr hu)

theorem State.tuneRequest_badArg {value : Half} (h : 24 ≤ eb.toNat) :
    s.tuneRequest eb value = (s, refuse .badArg) := by rw [State.tuneRequest, elementOf_none h]
theorem State.tuneRequest_closed {value : Half} (h : eb.toNat = e.val) (hm : ¬ s.clock.state.tunes = true) :
    s.tuneRequest eb value = (s, refuse .phase) := by
  rw [State.tuneRequest, elementOf_some h]
  exact if_pos (by simpa using hm)
/-- TUNE of an element (R125, Table 6-4). -/
theorem State.tuneRequest_eq {value : Half} (h : eb.toNat = e.val) (hm : s.clock.state.tunes = true) :
    s.tuneRequest eb value = match tuneRange (s.element e).header.kind (s.element e).pulse.mode with
      | some (lo, hi) =>
        (s.modifyElement e fun x =>
            { x with pulse := { x.pulse with pendingTune := some (clampHalf lo hi value, x.pulse.mode) } },
          accept (bytes2 (clampHalf lo hi value)))
      | none => (s, refuse .badArg) := by
  rw [State.tuneRequest, elementOf_some h]
  exact if_neg (by simp [hm])

end

theorem MatchState.tunes_iff {m : MatchState} : m.tunes = true ↔ m = .auto ∨ m = .drive ∨ m = .endgame ∨ m = .halted := by
  cases m <;> simp [MatchState.tunes]
/-- Nothing is tuned on a gate, on an element of kind NONE and on an idle unit (Table 6-4). -/
theorem tuneRange_none {k : Kind} {m : Mode} (h : k = .gate ∨ k = .none ∨ m = .idle) : tuneRange k m = none := by
  rcases h with rfl | rfl | rfl
  · cases m <;> rfl
  · cases m <;> rfl
  · cases k <;> rfl

/-- Settles O50: the checks in their order, REARM by the kind of the element. -/
theorem rearmAndTune : Obligations.RearmAndTune := by
  intro s
  generalize hu : s.examined 0 = v
  intro u
  refine ⟨fun eb hh => ?_, fun eb value hh => ?_⟩
  · intro run
    have ran : ∀ (t : State) (a : Answer), v.rearmRequest eb = (t, a) →
        run = .next (t.answered 0 (a.status.code :: padded 1 a.bytes)) := fun t a hb =>
      exec_referee (c := .rearm 0 eb) rfl rfl hh hu hb
    refine ⟨fun h => ran v (refuse .badArg) (State.rearmRequest_badArg h), fun e he => ?_⟩
    intro x stopped blocked r answers
    have checked := State.rearmRequest_eq (s := v) he
    have done : ¬ stopped → blocked → ∀ t, v.rearmElement e = t → answers t := fun hs hb t ht => by
      subst ht
      exact ran _ (accept [byte ((v.rearmElement e).claim e).state.code]) ((checked.trans (if_neg hs)).trans (if_pos hb))
    refine ⟨fun hs => ran v (refuse .fieldActive) (checked.trans (if_pos hs)),
      fun hs hb => ran v (refuse .badArg) ((checked.trans (if_neg hs)).trans (if_neg hb)),
      fun hs hb hk => done hs hb _ (State.rearmElement_gate hk), fun hs hb hk hn => done hs hb _ (State.rearmElement_idle hk hn),
      fun hs hb hk hauto => ?_⟩
    intro w y n empty waits tuned
    have feeds : ∀ {z : Element}, y.openFeed (v.activeProfile e) = z → answers (w.setElement e z) := fun hz =>
      done hs hb _ ((State.rearmElement_feeds hk hauto).trans (congrArg (fun z => w.setElement e z) hz))
    exact ⟨fun hw => feeds (Element.openFeed_waits _ hw), fun hw => feeds (Element.openFeed_starts _ hw)⟩
  · intro run refused m runs
    have ran : ∀ (t : State) (a : Answer), v.tuneRequest eb value = (t, a) →
        run = .next (t.answered 0 (a.status.code :: padded 2 a.bytes)) := fun t a hb =>
      exec_referee (c := .tune 0 eb value) rfl rfl hh hu hb
    refine ⟨fun h => ran v (refuse .badArg) (State.tuneRequest_badArg h), fun e he => ?_⟩
    intro x stored
    have stores : ∀ lo hi, lo ≤ hi → runs → tuneRange x.header.kind x.pulse.mode = some (lo, hi) → stored lo hi :=
      fun lo hi hle hm hr => by
        have body := State.tuneRequest_eq (s := v) (value := value) he (MatchState.tunes_iff.mpr hm)
        rw [show tuneRange (v.element e).header.kind (v.element e).pulse.mode = some (lo, hi) from hr] at body
        have := ran _ _ body
        rw [clampHalf, clampNat_eq hle] at this
        exact this
    refine ⟨fun hm => ran v (refuse .phase) (State.tuneRequest_closed he (mt MatchState.tunes_iff.mp hm)),
      fun hm hx => ran v (refuse .badArg) ?_, fun hm hk hp => stores 10 2000 (by decide) hm (by rw [hk, hp]; rfl),
      fun hm hk hp => stores 200 60000 (by decide) hm (by rw [hk, hp]; rfl),
      fun hm hk hp => stores 1 5000 (by decide) hm (by rw [hk, hp]; rfl),
      fun hm hk hp => stores 500 60000 (by decide) hm (by rw [hk, hp]; rfl)⟩
    rw [State.tuneRequest_eq he (MatchState.tunes_iff.mpr hm),
      show tuneRange (v.element e).header.kind (v.element e).pulse.mode = none from tuneRange_none hx]

end Sys2Proof.Machine

namespace Sys2Proof.Machine

/-! # A field stop and its group (R79, R80, R99, R110, R141, R143, R144) -/

/-- The records that a FIELD or JAM cause hands: LOST, DROPPED oldest first, ELEMENT, and none where the element is BLOCKED
already (R72, R79, R80). -/
def State.blockRecords (s : State) (b : BlockCause) (e : Elem) : List Notice :=
  if (s.claim e).state.isBlocked = true then []
  else ((s.claim e).state.holder.elim [] fun r => [s.notice .lost (some b.cause.reason) (some r) (some e) none]) ++
    s.drops e b.cause.reason (fun _ => false) (s.claim e).waiters 0 ++ [s.blockedNotice e b]
theorem State.takeBlock_tells (e : Elem) (b : BlockCause) (s : State) :
    s.Tells (s.blockRecords b e) (s.takeBlock e b) := by
  cases h : (s.claim e).state with
  | held r =>
    rw [State.blockRecords, h]
    exact State.takeBlock_held_tells h b
  | blocked b' =>
    have blocked : (s.claim e).state.isBlocked = true := by rw [h]; rfl
    rw [State.blockRecords, if_pos blocked, State.takeBlock_blocked blocked]
    exact State.setClaimState_tells e _ s
  | inert | free | returning =>
    rw [State.blockRecords, State.takeBlock_unclaimed (by rw [h]; rfl) (by rw [h]; rfl), h]
    exact State.enterBlocked_tells e b s

/-- The last-holder alliance after a FIELD or JAM cause (R68). -/
def State.lastAfter (s : State) (e : Elem) : Option Alliance :=
  (s.claim e).state.holder.elim (s.claim e).lastAlliance fun r => (s.robot r).alliance
/-- An element after a FIELD or JAM cause, whatever its claim (R79, R80, R101, R108). -/
theorem State.takeBlock_element (e : Elem) (b : BlockCause) (s : State) : (s.takeBlock e b).element e =
    { s.element e with
      claim := ⟨.blocked b, s.lastAfter e, if (s.claim e).state.isBlocked = true then (s.claim e).waiters else []⟩
      timer := if (s.claim e).state.isBlocked = true then (s.element e).timer else ⟨false, 0⟩
      shots := if (s.element e).header.kind = .dispenser ∧ (s.claim e).state.holder.isSome = true then 0
        else (s.element e).shots
      quotaMark := if (s.element e).header.kind = .dispenser ∧ (s.claim e).state.holder.isSome = true then false
        else (s.element e).quotaMark
      pulse := if (s.element e).header.kind = .beacon ∧ (s.claim e).state.holder.isSome = true then .stopped
        else (s.element e).pulse
      test := if (s.element e).header.kind = .beacon ∧ (s.claim e).state.holder.isSome = true then none
        else (s.element e).test } := by
  unfold State.lastAfter
  cases h : (s.claim e).state with
  | held r =>
    rw [State.takeBlock_held h, State.enterBlocked_element, State.claim, State.removeHolder_element, Element.claimEnded_eq]
    simp [ClaimState.holder, ClaimState.isBlocked, ClaimTimer.stopped, PulseUnit.stopped]
  | blocked b' =>
    rw [State.takeBlock_blocked (by rw [h]; rfl), State.setClaimState, State.setClaim_element, if_pos rfl]
    simp [ClaimState.holder, ClaimState.isBlocked]
  | inert | free | returning =>
    rw [State.takeBlock_unclaimed (by rw [h]; rfl) (by rw [h]; rfl), State.enterBlocked_element]
    simp [ClaimState.holder, ClaimState.isBlocked, ClaimTimer.stopped]

/-! ## One element of the group -/

/-- An element of a kind other than NONE as its engine takes the field stop, its test ended (R99, R110, R141). -/
theorem Element.stopped_eq (x : Element) (hk : x.header.kind ≠ .none) : x.endTest.fieldStop = { x with
    motion := if x.header.kind = .gate then .stopped else x.motion
    purpose := if x.header.kind = .gate then .none else x.purpose
    feed := if x.header.kind = .dispenser then .stopped else x.feed
    feedPending := if x.header.kind = .dispenser then false else x.feedPending
    pulse := .stopped, test := none } := by
  rw [Element.endTest_eq]
  unfold Element.fieldStop
  cases h : x.header.kind with
  | none => exact absurd h hk
  | gate | dispenser | goal | beacon => simp [Element.halted, Element.drivePulse, PulseUnit.stop]

section
variable {s : State} {e : Elem}

theorem State.stopElement_none (hk : (s.element e).header.kind = .none) :
    s.stopElement e = s.modifyElement e Element.endTest := by
  refine if_pos ?_
  rw [State.element_modifyElement_self, (Element.endTest_samePlan _).header, hk]
/-- The engine of an element has taken the field stop, not yet the arbiter. -/
def State.engineStopped (e : Elem) (s : State) : State := s.modifyElement e fun x => x.endTest.fieldStop
theorem State.engineStopped_tells : s.Tells [] (s.engineStopped e) :=
  State.modifyElement_tells ((Element.endTest_samePlan _).trans (Element.fieldStop_samePlan _))
theorem State.engineStopped_claim (e' : Elem) : (s.engineStopped e).claim e' = s.claim e' :=
  State.modifyElement_claims (by rw [Element.fieldStop_claim, Element.endTest_claim]) e'
theorem State.stopElement_some (hk : (s.element e).header.kind ≠ .none) :
    s.stopElement e = (s.engineStopped e).takeBlock e .field := by
  have kept : ¬ ((s.modifyElement e Element.endTest).element e).header.kind = .none := by
    rwa [State.element_modifyElement_self, (Element.endTest_samePlan _).header]
  rw [State.stopElement, if_neg kept, State.modifyElement_modifyElement]
  rfl
/-- The records of one element of the group. -/
theorem State.stopElement_tells : s.Tells (if (s.element e).header.kind = .none then [] else s.blockRecords .field e)
    (s.stopElement e) := by
  split
  · rename_i hk
    rw [State.stopElement_none hk]
    exact State.modifyElement_tells (Element.endTest_samePlan _)
  · rename_i hk
    have engine := State.engineStopped_tells (s := s) (e := e)
    have told := engine.trans (State.takeBlock_tells e .field (s.engineStopped e))
    rw [State.stopElement_some hk]
    rw [State.blockRecords, State.engineStopped_claim, engine.keeps.notice, engine.keeps.drops, State.blockedNotice,
      engine.keeps.notice] at told
    exact told
theorem State.stopElement_mirrors (hk : (s.element e).header.kind ≠ .none) : (s.stopElement e).Mirrored := by
  rw [State.stopElement_some hk]
  exact State.takeBlock_mirrors e .field _
/-- An element of a kind other than NONE after the field stop reached it (R143). -/
theorem State.stopElement_element (hk : (s.element e).header.kind ≠ .none) : (s.stopElement e).element e =
    { s.element e with
      claim := ⟨.blocked .field, s.lastAfter e, if (s.claim e).state.isBlocked = true then (s.claim e).waiters else []⟩
      timer := if (s.claim e).state.isBlocked = true then (s.element e).timer else ⟨false, 0⟩
      motion := if (s.element e).header.kind = .gate then .stopped else (s.element e).motion
      purpose := if (s.element e).header.kind = .gate then .none else (s.element e).purpose
      shots := if (s.element e).header.kind = .dispenser ∧ (s.claim e).state.holder.isSome = true then 0
        else (s.element e).shots
      quotaMark := if (s.element e).header.kind = .dispenser ∧ (s.claim e).state.holder.isSome = true then false
        else (s.element e).quotaMark
      feed := if (s.element e).header.kind = .dispenser then .stopped else (s.element e).feed
      feedPending := if (s.element e).header.kind = .dispenser then false else (s.element e).feedPending
      pulse := .stopped, test := none } := by
  have engine : (s.engineStopped e).element e = _ :=
    (State.element_modifyElement_self _ _ _).trans (Element.stopped_eq (s.element e) hk)
  have last : (s.engineStopped e).lastAfter e = s.lastAfter e := by
    rw [State.lastAfter, State.engineStopped_claim]
    rfl
  rw [State.stopElement_some hk, State.takeBlock_element, last, State.engineStopped_claim, engine]
  simp

end

/-! ## The group -/

/-- The records of a run over elements are those of each element of a kind other than NONE, in order. -/
theorem State.forEach_stopElement_tells {xs : List Elem} (distinct : xs.Nodup) (s : State) :
    s.Tells ((xs.filter fun e => (s.element e).header.kind ≠ .none).flatMap (s.blockRecords .field))
      (s.forEach xs State.stopElement) := by
  induction xs generalizing s with
  | nil => exact .refl s
  | cons i xs ih =>
    obtain ⟨hi, hd⟩ := List.nodup_cons.mp distinct
    have first := State.stopElement_tells (s := s) (e := i)
    have other : ∀ e ∈ xs, (s.stopElement i).element e = s.element e := fun e he =>
      State.stopElement_local i s e fun h => hi (h ▸ he)
    have rest := ih hd (s.stopElement i)
    have kinds : (xs.filter fun e => ((s.stopElement i).element e).header.kind ≠ .none) =
        xs.filter fun e => (s.element e).header.kind ≠ .none := List.filter_congr fun e he => by rw [other e he]
    have records : ∀ e ∈ xs, (s.stopElement i).blockRecords .field e = s.blockRecords .field e := fun e he => by
      have claim : (s.stopElement i).claim e = s.claim e := congrArg Element.claim (other e he)
      rw [State.blockRecords, claim, first.keeps.notice, first.keeps.drops, State.blockedNotice, first.keeps.notice]
      rfl
    rw [kinds, List.flatMap_congr fun e he => records e (List.mem_of_mem_filter he)] at rest
    rw [State.forEach_cons]
    have told := first.trans rest
    by_cases hk : (s.element i).header.kind = .none
    · rw [if_pos hk] at told
      rwa [List.filter_cons_of_neg (by simpa using hk)]
    · rw [if_neg hk] at told
      rwa [List.filter_cons_of_pos (by simpa using hk), List.flatMap_cons]
/-- The mirrors agree with the table once the field stop has reached an element of a kind other than NONE. -/
theorem State.forEach_stopElement_mirrors {xs : List Elem} {e : Elem} (he : e ∈ xs) {s : State}
    (hk : (s.element e).header.kind ≠ .none) : (s.forEach xs State.stopElement).Mirrored := by
  induction xs generalizing s with
  | nil => cases he
  | cons i xs ih =>
    rw [State.forEach_cons]
    have header := ((State.stopElement_arbitrates i s).plays.plans e).header
    rcases List.mem_cons.mp he with rfl | he
    · exact (State.forEach_keepsClaims State.stopElement_keepsClaims _).mirrors (State.stopElement_mirrors hk)
    · exact ih he (by rwa [header])
/-- A run over elements of kind NONE writes no robot record. -/
theorem State.forEach_stopElement_robots {xs : List Elem} {s : State} (h : ∀ e ∈ xs, (s.element e).header.kind = .none) :
    (s.forEach xs State.stopElement).robots = s.robots := by
  induction xs generalizing s with
  | nil => rfl
  | cons i xs ih =>
    rw [State.forEach_cons, ih fun e he => ?_, State.stopElement_none (h i List.mem_cons_self)]
    · rfl
    · rw [((State.stopElement_arbitrates i s).plays.plans e).header]
      exact h e (List.mem_cons_of_mem _ he)

/-! ## The commands -/

/-- The line of a group is asserted and its notice raised (R143). -/
def State.stopAsserted (g : Group) (s : State) : State :=
  (s.setStop g ⟨true, none⟩).raise .element (some .fieldStop) none none (some (g.val : Int))
theorem State.assertStop_eq (g : Group) (s : State) :
    s.assertStop g = (s.stopAsserted g).forEach (s.group g) State.stopElement := rfl
/-- Elements, robots and everything else beside the lines and the queues are the same. -/
theorem State.stopAsserted_eq (g : Group) (s : State) :
    s.stopAsserted g = { s with stops := (s.stopAsserted g).stops, ports := (s.stopAsserted g).ports } := rfl
theorem State.setStop_raise_handed (g : Group) (x : FieldStop) (re : Reason) (v : Int) (s : State) :
    s.Handed (s.notice .element (some re) none none (some v))
      ((s.setStop g x).raise .element (some re) none none (some v)) :=
  State.raise_handed .element (some re) none none (some v) (s.setStop g x)
theorem State.setStop_raise_samePorts (g : Group) (x : FieldStop) (re : Reason) (v : Int) (s : State) :
    s.SamePorts ((s.setStop g x).raise .element (some re) none none (some v)) :=
  (State.raise_onlyHands .element (some re) none none (some v) (s.setStop g x)).ports

/-- What arbiter and engines leave beside elements, robots, lines and queues. -/
theorem State.Arbitrates.rest {s t : State} (h : s.Arbitrates t) :
    t = { s with elements := t.elements, robots := t.robots, stops := t.stops, ports := t.ports } := by
  obtain ⟨⟨⟨clock, timing, stage, -, rst, boundaries, pending, clocks⟩, -, -, -⟩, accumulators, published⟩ := h
  rw [← clock, ← timing, ← stage, ← rst, ← boundaries, ← pending, ← clocks, ← accumulators, ← published]

/-- Each element of the group is taken as the assertion found it, and the others are left (R143). -/
theorem State.assertStop_element (g : Group) (s : State) (e : Elem) :
    ((s.element e).header.group = g → ∃ u : State, u.element e = s.element e ∧ s.SameRosters u ∧
      (s.assertStop g).element e = (u.stopElement e).element e) ∧
    ((s.element e).header.group ≠ g → (s.assertStop g).element e = s.element e) := by
  obtain ⟨inside, outside⟩ := State.forEach_local State.Arbitrates .refl .trans State.stopElement_arbitrates
    State.stopElement_local (xs := s.group g) (allElems_nodup.filter _) (s.stopAsserted g) e
  refine ⟨fun hg => ?_, fun hg => ?_⟩
  · obtain ⟨u, hu, he, -, ht⟩ := inside (State.mem_group.mpr hg)
    exact ⟨u, he, hu.plays.rosters, ht⟩
  · exact outside (mt State.mem_group.mp hg)
theorem State.lastAfter_congr {s u : State} {e : Elem} (he : u.element e = s.element e) (hr : s.SameRosters u) :
    u.lastAfter e = s.lastAfter e := by
  have claim : u.claim e = s.claim e := congrArg Element.claim he
  have alliance : ∀ r, (u.robot r).alliance = (s.robot r).alliance := fun r =>
    congrArg RobotRecord.alliance (a₁ := (u.robot r).own) (a₂ := (s.robot r).own) (hr r)
  simp only [State.lastAfter, claim, alliance]
/-- The records of the assertion (R143). -/
theorem State.assertStop_handed (g : Group) (s : State) :
    s.HandedAll (s.notice .element (some .fieldStop) none none (some (g.val : Int)) ::
      (allElems.filter fun e => (s.element e).header.group = g && (s.element e).header.kind ≠ .none).flatMap
        (s.blockRecords .field)) (s.assertStop g) := by
  have told := State.forEach_stopElement_tells (xs := s.group g) (allElems_nodup.filter _) (s.stopAsserted g)
  have kinds : ((s.group g).filter fun e => (s.element e).header.kind ≠ .none) =
      allElems.filter fun e => (s.element e).header.group = g && (s.element e).header.kind ≠ .none := by
    rw [State.group, List.filter_filter]
    exact List.filter_congr fun e _ => Bool.and_comm _ _
  have first := State.HandedAll.single (State.setStop_raise_handed g ⟨true, none⟩ .fieldStop (g.val : Int) s)
  rw [← kinds]
  exact first.append told.handed (State.routes_congr (fun _ => rfl)
    (State.SamePorts.subscription (State.setStop_raise_samePorts g _ .fieldStop _ s)))

/-- Settles O27: the line, then the elements of the group one by one. -/
theorem fieldStopBlocksItsGroup : Obligations.FieldStopBlocksItsGroup := by
  refine ⟨fun g s hs hg => ?_, fun g s hs hg => ?_⟩
  · exact ⟨s.releaseStop g, exec_event_due (c := .fieldStopReleased g) rfl hs (by simp [State.releaseDue, hg, acceptedDue]),
      State.stop_setStop_self g _ s, fun h hne => State.stop_setStop_ne g h _ s hne,
      State.setStop_raise_handed g _ .fieldClear _ s, State.setStop_raise_samePorts g _ .fieldClear _ s, rfl⟩
  · have kept : (s.stopAsserted g).Arbitrates (s.assertStop g) :=
      State.forEach_arbitrates State.stopElement_arbitrates _
    have asserted : (s.assertStop g).stop g = ⟨true, none⟩ := by
      rw [State.stop, kept.plays.same.stops]
      exact State.stop_setStop_self g _ s
    refine ⟨s.assertStop g, exec_event_due (c := .fieldStopAsserted g) rfl hs (by simp [State.assertDue, hg, acceptedDue]),
      asserted, fun h hne => ?_, ?_, fun e => ?_, ?_, kept.plays.rosters, fun q => ?_⟩
    · rw [State.stop, kept.plays.same.stops]
      exact State.stop_setStop_ne g h _ s hne
    · intro note own blocked
      have records : s.blockRecords .field = own := by
        funext e
        rw [State.blockRecords, State.drops_all]
        dsimp only [own]
        cases (s.claim e).state <;> rfl
      refine ⟨records ▸ State.assertStop_handed g s, fun hb => ?_, fun hb => ?_⟩
      · refine State.forEach_stopElement_robots (xs := s.group g) (s := s.stopAsserted g) fun e he => ?_
        have none := List.filter_eq_nil_iff.mp hb e (mem_allElems e)
        change (s.element e).header.kind = .none
        simpa [State.mem_group.mp he] using none
      · obtain ⟨e, he⟩ := List.exists_mem_of_ne_nil _ hb
        have he : (s.element e).header.group = g ∧ (s.element e).header.kind ≠ .none := by
          simpa [blocked, mem_allElems] using he
        exact State.forEach_stopElement_mirrors (s := s.stopAsserted g) (State.mem_group.mpr he.1) he.2
    · intro x y stopped k
      obtain ⟨inside, outside⟩ := State.assertStop_element g s e
      refine ⟨outside, fun hx hk => ?_, fun hx hk => ?_⟩
      · obtain ⟨u, he, -, ht⟩ := inside hx
        have hy : y = _ := ht
        rw [State.stopElement_none (by rw [he]; exact hk), State.element_modifyElement_self, Element.endTest_eq, he] at hy
        exact hy
      · obtain ⟨u, he, hr, ht⟩ := inside hx
        have hy : y = _ := ht
        rw [State.stopElement_element (by rw [he]; exact hk), State.lastAfter_congr he hr, State.claim, he] at hy
        have last : y.claim.lastAlliance = s.lastAfter e := by rw [hy]
        refine ⟨fun r hc => ?_, fun hc => ?_, ?_, fun l => ?_⟩
        · rw [last, State.lastAfter, State.claim, show (s.element e).claim.state = _ from hc]
          rfl
        · rw [last, State.lastAfter, State.claim, show (s.element e).claim.state.holder = _ from hc]
          rfl
        · rw [last]
          exact hy
        · have forced : (s.assertStop g).forced e = true := by
            have header : ((s.assertStop g).element e).header.group = g :=
              (congrArg Header.group (kept.plays.plans e).header).trans hx
            rw [State.forced, header, asserted]
            rfl
          rw [State.driveActive, forced]
          rfl
    · exact kept.rest
    · exact (kept.plays.ports q).trans (State.setStop_raise_samePorts g _ .fieldStop _ s q)

end Sys2Proof.Machine

namespace Sys2Proof.Machine

/-! # A boundary settles the claim table, element by element (R68, R72, R73, R83, R84) -/

/-- The arbiter settles one element at a boundary, into a live phase or out of one. -/
def State.settleClaim (live : Bool) (e : Elem) (s : State) : State :=
  if live = true then s.claimAtLive e else s.claimAtStop e
/-- The robots that the active profile lets keep a claim or a place (R83). -/
def State.keeps (s : State) (e : Elem) : Robot → Bool := s.mayUse (s.activeProfile e)
/-- An element as the boundary finds it: into a live phase its last-holder alliance is cleared first (Table 4-5). -/
def State.forgetLast (live : Bool) (e : Elem) (s : State) : State :=
  if live = true then s.setClaim e { s.claim e with lastAlliance := none } else s

theorem State.Plays.mayUse {s t : State} (h : s.Plays t) : t.mayUse = s.mayUse := by
  funext p r
  have alliance : (t.robot r).alliance = (s.robot r).alliance :=
    congrArg RobotRecord.alliance (a₁ := (t.robot r).own) (a₂ := (s.robot r).own) (h.rosters r)
  rw [State.mayUse, State.mayUse, alliance]
theorem State.Plays.keeps {s t : State} (h : s.Plays t) (e : Elem) : t.keeps e = s.keeps e := by
  rw [State.keeps, State.keeps, h.mayUse, h.activeProfile]
/-- Without a live phase nobody keeps anything (R84). -/
theorem State.keeps_closed {s : State} (h : s.clock.currentLive = none) (e : Elem) : s.keeps e = fun _ => false := by
  funext r
  rw [State.keeps, State.activeProfile_closed h]
  rfl

section
variable {s : State} {e : Elem} (live : Bool)

theorem State.forgetLast_tells : s.Tells [] (s.forgetLast live e) := by
  unfold State.forgetLast
  split
  · exact State.setClaim_tells e _ s
  · exact .refl s
theorem State.forgetLast_element : (s.forgetLast live e).element e = { s.element e with
    claim := { s.claim e with lastAlliance := if live = true then none else (s.claim e).lastAlliance } } := by
  unfold State.forgetLast
  split
  · rw [State.setClaim_element, if_pos rfl]
  · rfl
theorem State.forgetLast_claim : (s.forgetLast live e).claim e =
    { s.claim e with lastAlliance := if live = true then none else (s.claim e).lastAlliance } := by
  rw [State.claim, State.forgetLast_element]
theorem State.forgetLast_local (s : State) (e : Elem) : s.SameElementsBut e (s.forgetLast live e) := by
  unfold State.forgetLast
  split
  · exact State.setClaim_local e _ s
  · exact fun _ _ => rfl

/-- The ending of a claim that the new phase does not let go on, its wait list filtered (R68, R72, R83, R84). -/
def State.dispossess (e : Elem) (r : Robot) (keep : Robot → Bool) (s : State) : State :=
  (s.leaveHolder e r .phase).dropWaiters e .phase keep

/-- The clock and the current live phase go together at a boundary. -/
abbrev State.AtBoundary (s : State) (live : Bool) : Prop := live = false → s.clock.currentLive = none

/-- The arbiter's settlement at a boundary into a live phase, by the claim state found (R83, Table 4-5). -/
theorem State.claimAtLive_eq (e : Elem) (s : State) : s.claimAtLive e =
    match (s.claim e).state with
    | .blocked _ => s.forgetLast true e
    | .held r =>
      if s.keeps e r = true then
        ((s.forgetLast true e).setTimer e (.load ((s.activeProfile e).holdS * 1000))).dropWaiters e .phase (s.keeps e)
      else ((s.forgetLast true e).dispossess e r (s.keeps e)).finishReturn e
    | .returning => (s.forgetLast true e).dropWaiters e .phase (s.keeps e)
    | .free | .inert =>
      (s.forgetLast true e).setClaimState e (if (s.activeProfile e).use = .claim then .free else .inert) := by
  have kept := (State.forgetLast_tells (s := s) (e := e) true).keeps.plays
  have state : ((s.forgetLast true e).claim e).state = (s.claim e).state := by rw [State.forgetLast_claim]
  rw [← kept.keeps, ← kept.activeProfile, ← state]
  rfl
/-- The settlement at one out of a live phase (R84). -/
theorem State.claimAtStop_eq {e : Elem} {s : State} (h : s.clock.currentLive = none) : s.claimAtStop e =
    match (s.claim e).state with
    | .blocked _ | .inert => s
    | .held r => (s.dispossess e r (s.keeps e)).finishReturn e
    | .returning => s.dropWaiters e .phase (s.keeps e)
    | .free => s.setClaimState e .inert := by
  rw [State.keeps_closed h]
  rfl

variable {live}

/-- The wait list of a RETURNING element is filtered (R83, R84). -/
theorem State.settleClaim_returning (hb : s.AtBoundary live) (h : (s.claim e).state = .returning) :
    s.settleClaim live e = (s.forgetLast live e).dropWaiters e .phase (s.keeps e) := by
  cases live with
  | true => exact (State.claimAtLive_eq e s).trans (by rw [h])
  | false => exact (State.claimAtStop_eq (hb rfl)).trans (by rw [h]; rfl)
/-- A holder that the new phase does not let go on is removed (R83, R84). -/
theorem State.settleClaim_removed (hb : s.AtBoundary live) {r : Robot} (h : (s.claim e).state = .held r)
    (hk : s.keeps e r = false) : s.settleClaim live e =
      ((s.forgetLast live e).dispossess e r (s.keeps e)).finishReturn e := by
  cases live with
  | true => exact (State.claimAtLive_eq e s).trans (by rw [h]; exact if_neg (by simp [hk]))
  | false => exact (State.claimAtStop_eq (hb rfl)).trans (by rw [h]; rfl)

theorem State.settleClaim_arbitrates (e : Elem) (s : State) : s.Arbitrates (s.settleClaim live e) := by
  unfold State.settleClaim
  split
  · exact State.claimAtLive_arbitrates e s
  · exact State.claimAtStop_arbitrates e s
theorem State.settleClaim_local (e : Elem) (s : State) : s.SameElementsBut e (s.settleClaim live e) := by
  unfold State.settleClaim
  split
  · exact State.claimAtLive_local e s
  · exact State.claimAtStop_local e s

end

end Sys2Proof.Machine

namespace Sys2Proof.Machine

section
variable {s : State} {e : Elem} {live : Bool}

/-- Wherever the arbiter settles an element it writes its claim record, and with it the mirrors (R61). -/
theorem State.claimAtLive_mirrors (e : Elem) (s : State) : (s.claimAtLive e).Mirrored := by
  rw [State.claimAtLive_eq]
  split
  · exact State.setClaim_mirrored e _ s
  · split
    · exact State.dropWaiters_mirrors e _ _ _
    · exact (State.finishReturn_keepsClaims e _).mirrors (State.dropWaiters_mirrors e _ _ _)
  · exact State.dropWaiters_mirrors e _ _ _
  · exact State.setClaim_mirrored e _ _
  · exact State.setClaim_mirrored e _ _
theorem State.claimAtStop_mirrors (h : s.clock.currentLive = none) (hb : (s.claim e).state.isBlocked = false)
    (hi : (s.claim e).state ≠ .inert) : (s.claimAtStop e).Mirrored := by
  rw [State.claimAtStop_eq h]
  split
  · rename_i b k; simp [k, ClaimState.isBlocked] at hb
  · exact absurd ‹_› hi
  · exact (State.finishReturn_keepsClaims e _).mirrors (State.dropWaiters_mirrors e _ _ _)
  · exact State.dropWaiters_mirrors e _ _ _
  · exact State.setClaim_mirrored e _ s
theorem State.settleClaim_mirrors (hb : s.AtBoundary live)
    (h : live = true ∨ (s.claim e).state.isBlocked = false ∧ (s.claim e).state ≠ .inert) :
    (s.settleClaim live e).Mirrored := by
  cases live with
  | true => exact State.claimAtLive_mirrors e s
  | false =>
    obtain ⟨h1, h2⟩ := h.resolve_left nofun
    exact State.claimAtStop_mirrors (hb rfl) h1 h2

/-! ## The records that a filtered wait list hands -/

theorem State.Tells.dropWaiters {u : State} (h : s.Tells [] u) (hw : (u.claim e).waiters = (s.claim e).waiters)
    (keep : Robot → Bool) : s.Tells (s.drops e .phase keep (s.claim e).waiters 0) (u.dropWaiters e .phase keep) := by
  have dropped := h.trans (State.dropWaiters_tells e .phase keep u)
  rw [h.keeps.drops, hw] at dropped
  exact dropped
theorem State.forgetLast_waiters : ((s.forgetLast live e).claim e).waiters = (s.claim e).waiters := by
  rw [State.forgetLast_claim]

/-! ## What a RETURNING element and a claim that goes on keep -/

/-- Its wait list is filtered, and the waiters left out are dropped with the positions of the list as it stood (R72). -/
theorem State.settleClaim_returning_tells (hb : s.AtBoundary live) (h : (s.claim e).state = .returning) :
    s.Tells (s.drops e .phase (s.keeps e) (s.claim e).waiters 0) (s.settleClaim live e) := by
  rw [State.settleClaim_returning hb h]
  exact (State.forgetLast_tells live).dropWaiters State.forgetLast_waiters (s.keeps e)
theorem State.settleClaim_returning_element (hb : s.AtBoundary live) (h : (s.claim e).state = .returning) :
    (s.settleClaim live e).element e = { s.element e with
      claim := ⟨.returning, if live = true then none else (s.claim e).lastAlliance,
        (s.claim e).waiters.filter (s.keeps e)⟩ } := by
  rw [State.settleClaim_returning hb h, State.dropWaiters_element, if_pos rfl, State.forgetLast_claim,
    State.forgetLast_element, ← h]

section
variable {r : Robot} (h : (s.claim e).state = .held r) (hk : s.keeps e r = true)
include h hk

theorem State.claimAtLive_kept : s.claimAtLive e =
    ((s.forgetLast true e).setTimer e (.load ((s.activeProfile e).holdS * 1000))).dropWaiters e .phase (s.keeps e) := by
  rw [State.claimAtLive_eq, h]
  exact if_pos hk
theorem State.claimAtLive_kept_tells :
    s.Tells (s.drops e .phase (s.keeps e) (s.claim e).waiters 0) (s.claimAtLive e) := by
  rw [State.claimAtLive_kept h hk]
  exact ((State.forgetLast_tells true).trans (State.setTimer_tells e _ _)).dropWaiters
    (by rw [State.setTimer_claim, State.forgetLast_waiters]) (s.keeps e)
theorem State.claimAtLive_kept_element : (s.claimAtLive e).element e = { s.element e with
    claim := ⟨.held r, none, (s.claim e).waiters.filter (s.keeps e)⟩
    timer := if (s.activeProfile e).hold.getD 0 = 0 then ⟨false, 0⟩
      else ⟨true, (s.activeProfile e).hold.getD 0 * 1000⟩ } := by
  rw [State.claimAtLive_kept h hk, State.dropWaiters_element, if_pos rfl, State.setTimer_claim, State.setTimer,
    State.element_modifyElement_self, State.forgetLast_claim, State.forgetLast_element, Profile.holdS,
    ClaimTimer.load_seconds, ← h]
  rfl

end

/-! ## The holder that is removed -/

/-- The holder of an element is removed at a boundary and the element stands in RETURNING (R68). -/
def State.evict (live : Bool) (e : Elem) (r : Robot) (s : State) : State := (s.forgetLast live e).vacate e r .phase
theorem State.evict_tells (r : Robot) :
    s.Tells [s.notice .lost (some .phase) (some r) (some e) none] (s.evict live e r) := by
  have forgotten := State.forgetLast_tells (s := s) (e := e) live
  have vacated : (s.forgetLast live e).Tells _ _ :=
    ⟨State.vacate_arbitrates e r .phase _, .single (State.vacate_handed e r .phase _)⟩
  rw [forgotten.keeps.notice] at vacated
  exact forgotten.trans vacated
theorem State.evict_local (r : Robot) : s.SameElementsBut e (s.evict live e r) :=
  (State.forgetLast_local live s e).trans (State.vacate_local e r .phase _)
theorem State.evict_element (r : Robot) : (s.evict live e r).element e = { s.element e with
    claim := ⟨.returning, (s.robot r).alliance, (s.claim e).waiters⟩
    shots := if (s.element e).header.kind = .dispenser then 0 else (s.element e).shots
    quotaMark := if (s.element e).header.kind = .dispenser then false else (s.element e).quotaMark
    pulse := if (s.element e).header.kind = .beacon then .stopped else (s.element e).pulse
    test := if (s.element e).header.kind = .beacon then none else (s.element e).test } := by
  have alliance : ((s.forgetLast live e).robot r).alliance = (s.robot r).alliance :=
    congrArg RobotRecord.alliance (a₁ := ((s.forgetLast live e).robot r).own) (a₂ := (s.robot r).own)
      ((State.forgetLast_tells live).keeps.plays.rosters r)
  rw [State.evict, State.vacate_element, Element.claimEnded_eq, alliance, State.forgetLast_claim, State.forgetLast_element]
  rfl
/-- The ending of its claim by the kind of the element (R73, R131; R133 says nothing of PHASE). -/
theorem State.forgetLast_leaveHolder (r : Robot) : (s.forgetLast live e).leaveHolder e r .phase =
    if (s.element e).header.kind = .gate then ((s.evict live e r).setTimer e ⟨false, 0⟩).beginReturn e
    else (s.evict live e r).setTimer e (if (s.activeProfile e).cooldown.getD 0 = 0 then ⟨false, 0⟩
      else ⟨true, (s.activeProfile e).cooldown.getD 0⟩) := by
  have kept := (State.forgetLast_tells (s := s) (e := e) live).keeps.plays
  rw [State.leaveHolder_eq, State.endCooldown_eq, (kept.plans e).header, kept.activeProfile]
  rfl

/-! ## The return that needs no time -/

/-- A gate at rest has returned; any other kind has, once it has no cooldown to run (R73). -/
theorem Element.returnDue_cooled {x : Element} {n : Nat}
    (h : x.header.kind ≠ .gate → x.timer = if n = 0 then ⟨false, 0⟩ else ⟨true, n⟩) :
    x.returnDue = true ↔ x.claim.state = .returning ∧ (x.header.kind = .gate → x.motion = .atRest) ∧
      (¬ x.header.kind = .gate → n = 0) := by
  by_cases hg : x.header.kind = .gate
  · simp [Element.returnDue_gate hg, hg]
  · by_cases hn : n = 0 <;> simp [Element.returnDue_other hg, h hg, hg, hn]

end

/-! ## The turns -/

/-- The table after the first `n` elements are settled. -/
def State.settledTo (s : State) (live : Bool) (n : Nat) : State := s.forEach (allElems.take n) (State.settleClaim live)

theorem State.settledTo_succ (s : State) (live : Bool) (e : Elem) :
    s.settledTo live (e.val + 1) = (s.settledTo live e.val).settleClaim live e := by
  have here : allElems[e.val]? = some e := by simp [allElems]
  rw [State.settledTo, List.take_add_one, here]
  exact List.foldl_append
theorem State.settledTo_arbitrates (s : State) (live : Bool) (n : Nat) : s.Arbitrates (s.settledTo live n) :=
  State.forEach_arbitrates State.settleClaim_arbitrates s
/-- An element is untouched up to its turn. -/
theorem State.settledTo_element (s : State) (live : Bool) (e : Elem) :
    (s.settledTo live e.val).element e = s.element e := by
  refine (State.forEach_local State.Arbitrates .refl .trans State.settleClaim_arbitrates State.settleClaim_local
    (allElems_nodup.sublist (List.take_sublist _ _)) s e).2 fun h => ?_
  obtain ⟨i, hi, he⟩ := List.mem_take_iff_getElem.mp h
  have : i = e.val := by simpa [allElems] using congrArg Fin.val he
  omega
theorem State.settledTo_all (s : State) : s.settledTo s.clock.state.isLive 24 = s.claimsAtBoundary := by
  have whole : allElems.take 24 = allElems := List.take_of_length_le (by simp [allElems])
  rw [State.settledTo, whole, State.claimsAtBoundary]
  cases s.clock.state.isLive <;> rfl

/-- Settles O14: each element by the claim state that its turn finds. -/
theorem boundarySettlesEveryClaim : Obligations.BoundarySettlesEveryClaim := by
  intro s hm live
  refine ⟨s.settledTo s.clock.state.isLive, rfl, s.settledTo_all, fun e => ?_⟩
  have here := s.settledTo_element s.clock.state.isLive e
  have before := s.settledTo_arbitrates s.clock.state.isLive e.val
  have next := s.settledTo_succ s.clock.state.isLive e
  have bound : (s.settledTo s.clock.state.isLive e.val).AtBoundary s.clock.state.isLive := fun h => by
    rw [before.plays.same.clock]
    exact Clock.currentLive_of_stop (hm.resolve_left (by simp [h]))
  intro a b x c active gate cooldown keep note drops beside
  have settled : b = a.settleClaim s.clock.state.isLive e := next
  have claim : a.claim e = c := congrArg Element.claim here
  have profile : a.activeProfile e = active := before.plays.activeProfile e
  have keeps : a.keeps e = keep := (before.plays.keeps e).trans rfl
  have dropped : ∀ ws, a.drops e .phase (a.keeps e) ws 0 = drops ws := fun ws => by rw [before.drops, keeps]; rfl
  have alive : live → b = a.claimAtLive e := fun hl => settled.trans (if_pos hl)
  have dead : ¬ live → b = a.claimAtStop e := fun hl => settled.trans (if_neg hl)
  have none' : ¬ live → a.clock.currentLive = none := fun hl => bound (Bool.not_eq_true _ ▸ hl)
  have opened : c.state = .free ∨ c.state = .inert → live → b = (a.forgetLast true e).setClaimState e
      (if active.use = .claim then .free else .inert) := fun hc hl => by
    rw [alive hl, State.claimAtLive_eq, claim, profile]
    rcases hc with k | k <;> rw [k]
  refine ⟨here, before.plays.rosters, before.plays.same, fun hl hc => ?_, fun hc => ?_, fun hl hc => ?_, fun hl hc => ?_,
    fun hl hc => ?_, fun hc => ?_, fun r hc hk => ?_, fun r hc hk => ?_⟩
  · rw [dead hl, State.claimAtStop_eq (none' hl), claim]
    rcases hc with k | k
    · obtain ⟨b', k⟩ := ClaimState.isBlocked_iff.mp k
      rw [k]
    · rw [k]
  · rw [settled]
    exact (State.settleClaim_arbitrates e a).beside (State.settleClaim_local e a)
      (State.settleClaim_mirrors bound (by rw [claim]; exact hc))
  · obtain ⟨b', k⟩ := ClaimState.isBlocked_iff.mp hc
    have stays : b = a.forgetLast true e := by rw [alive hl, State.claimAtLive_eq, claim, k]
    refine ⟨?_, by rw [stays]; rfl⟩
    rw [stays, State.forgetLast_element, claim, here]
    rfl
  · refine ⟨?_, by rw [opened hc hl]; rfl⟩
    rw [opened hc hl, State.setClaimState, State.setClaim_element, if_pos rfl, State.forgetLast_claim,
      State.forgetLast_element, claim, here]
    rfl
  · have shut : b = a.setClaimState e .inert := by rw [dead hl, State.claimAtStop_eq (none' hl), claim, hc]
    refine ⟨?_, by rw [shut]; rfl⟩
    rw [shut, State.setClaimState, State.setClaim_element, if_pos rfl, claim, here]
  · have told := State.settleClaim_returning_tells bound (by rw [claim]; exact hc)
    have element := State.settleClaim_returning_element bound (by rw [claim]; exact hc)
    rw [dropped, claim, ← settled] at told
    rw [claim, here, keeps, ← settled] at element
    exact ⟨element, told.handed⟩
  · have hl : live := by
      by_contra hl
      rw [← keeps, State.keeps_closed (none' hl)] at hk
      cases hk
    have stays : a.keeps e r = true := by rw [keeps]; exact hk
    have told := State.claimAtLive_kept_tells (by rw [claim]; exact hc) stays
    have element := State.claimAtLive_kept_element (by rw [claim]; exact hc) stays
    rw [dropped, claim, ← alive hl] at told
    rw [claim, here, keeps, profile, ← alive hl] at element
    exact ⟨element, told.handed⟩
  · have removed := settled.trans (State.settleClaim_removed bound (by rw [claim]; exact hc) (by rw [keeps]; exact hk))
    have evicted := State.evict_tells (s := a) (e := e) (live := s.clock.state.isLive) r
    have note_eq : a.notice = s.notice := before.notice
    rw [note_eq] at evicted
    refine ⟨a.evict s.clock.state.isLive e r, (a.forgetLast s.clock.state.isLive e).dispossess e r (a.keeps e),
      evicted.keeps.beside (State.evict_local r) (State.vacate_mirrors e r .phase _), evicted.single, ?_, ?_⟩
    · have alliance : (a.robot r).alliance = (s.robot r).alliance :=
        congrArg RobotRecord.alliance (a₁ := (a.robot r).own) (a₂ := (s.robot r).own) (before.plays.rosters r)
      rw [State.evict_element, claim, here, alliance]
      rfl
    · intro y
      have header : (a.element e).header = x.header := congrArg Element.header here
      have y_eq : y = (a.forgetLast s.clock.state.isLive e).leaveHolder e r .phase := by
        rw [State.forgetLast_leaveHolder, header, profile]
      have left : s.Arbitrates y := by
        rw [y_eq]
        exact before.trans ((State.forgetLast_tells s.clock.state.isLive).keeps.trans
          (State.leaveHolder_arbitrates e r .phase _))
      have w_eq : (a.forgetLast s.clock.state.isLive e).dispossess e r (a.keeps e) = y.dropWaiters e .phase keep := by
        rw [State.dispossess, y_eq, keeps]
      rw [w_eq] at removed ⊢
      have told := State.dropWaiters_tells e .phase keep y
      have element := (State.dropWaiters_element e e .phase keep y).trans (if_pos rfl)
      refine ⟨told.keeps.beside (State.dropWaiters_local e .phase keep y) (State.dropWaiters_mirrors e .phase keep y),
        element, ?_, ?_⟩
      · rw [left.drops] at told
        exact told.handed
      · intro ends
        have whole : b = (y.dropWaiters e .phase keep).finishReturn e := removed
        have kind : ((y.dropWaiters e .phase keep).element e).header = x.header :=
          ((left.trans told.keeps).plays.plans e).header
        have cooled : ((y.dropWaiters e .phase keep).element e).header.kind ≠ .gate →
            ((y.dropWaiters e .phase keep).element e).timer = if cooldown = 0 then ⟨false, 0⟩ else ⟨true, cooldown⟩ := by
          intro hg
          rw [kind] at hg
          rw [element, show y = _ from if_neg hg, State.setTimer, State.element_modifyElement_self]
        have due := Element.returnDue_cooled cooled
        rw [kind] at due
        refine ⟨fun he => whole.trans (State.finishReturn_due (due.mpr he)), fun he =>
          whole.trans (State.finishReturn_idle (Bool.eq_false_iff.mpr (mt due.mp he)))⟩

end Sys2Proof.Machine

namespace Sys2Proof.Machine

/-! # The filters of sense inputs and field stop lines (R137, R142) -/

/-- The hold count after consecutive samples that differ from the filtered level: the first one loads the filter time,
each further one lowers the count. -/
theorem filterStep_differs_iterate (F k : Nat) : (filterStep true F)^[k + 1] none = some (F - k) := by
  induction k with
  | zero => rfl
  | succ k ih => rw [Function.iterate_succ_apply', ih]; rfl

theorem SenseInput.take_other (F : Nat) (x : SenseInput) :
    x.take F (!x.high) = { x with pending := filterStep true F x.pending } := by
  rw [SenseInput.take, Bool.not_bne_self]
theorem SenseInput.take_same (F : Nat) (x : SenseInput) : x.take F x.high = { x with pending := none } := by
  rw [SenseInput.take, bne_self_eq_false]
  rfl
/-- A low sample is the asserted level. -/
theorem FieldStop.take_other (x : FieldStop) : x.take x.asserted = { x with pending := filterStep true 10 x.pending } := by
  rw [FieldStop.take, beq_self_eq_true]
  rfl
theorem FieldStop.take_same (x : FieldStop) : x.take (!x.asserted) = { x with pending := none } := by
  rw [FieldStop.take, Bool.not_beq_self]
  rfl

/-- Samples of the other level step the pending change of a sense input and leave its filtered level. -/
theorem SenseInput.take_other_iterate (F n : Nat) (x : SenseInput) :
    (fun y : SenseInput => y.take F (!x.high))^[n] x = { x with pending := (filterStep true F)^[n] x.pending } := by
  induction n with
  | zero => rfl
  | succ n ih =>
    rw [Function.iterate_succ_apply', ih, Function.iterate_succ_apply']
    exact SenseInput.take_other F { x with pending := _ }
/-- Samples of the other level step the pending change of a field stop line and leave its filtered state. -/
theorem FieldStop.take_other_iterate (n : Nat) (x : FieldStop) :
    (fun y : FieldStop => y.take x.asserted)^[n] x = { x with pending := (filterStep true 10)^[n] x.pending } := by
  induction n with
  | zero => rfl
  | succ n ih =>
    rw [Function.iterate_succ_apply', ih, Function.iterate_succ_apply']
    exact FieldStop.take_other { x with pending := _ }

/-- Settles O5: the hold count by induction on the samples, for both filters. -/
theorem filterAcceptsAfterFullHold : Obligations.FilterAcceptsAfterFullHold := by
  refine ⟨fun F k x h _ => ?_, SenseInput.take_same, fun k x h _ => ?_, FieldStop.take_same⟩
  · rw [SenseInput.take_other_iterate, h, filterStep_differs_iterate]
  · rw [FieldStop.take_other_iterate, h, filterStep_differs_iterate]

end Sys2Proof.Machine

namespace Sys2Proof.Machine

/-! # LINE TEST (R140) -/

/-! ## The arguments -/

theorem lineOf_none {b : Byte} (h : 2 ≤ b.toNat) : lineOf b = none := by
  unfold lineOf
  split
  case h_3 => rfl
  all_goals exact absurd h (by decide)
theorem lineOf_byte (l : Line) : lineOf (byte (if l = .d0 then 0 else 1)) = some l := by cases l <;> rfl
theorem otherLine_eq (l : Line) : otherLine l = if l = .d0 then .d1 else .d0 := by cases l <;> rfl
theorem inRange_none {lo hi : Nat} {v : Half} (h : v.toNat < lo ∨ hi < v.toNat) : inRange lo hi v = none := by
  rw [Option.eq_none_iff_forall_ne_some]
  intro n hn
  obtain ⟨⟨hlo, hhi⟩, -⟩ := inRange_eq_some.mp hn
  omega

/-! ## The request -/

section
variable {s : State} {eb lb : Byte} {w : Half}

theorem State.testRequest_badArg (h : 24 ≤ eb.toNat ∨ 2 ≤ lb.toNat ∨ w.toNat < 10 ∨ 2000 < w.toNat) :
    s.testRequest eb lb w = (s, refuse .badArg) := by
  have bad : elementOf eb = none ∨ lineOf lb = none ∨ inRange 10 2000 w = none := by
    rcases h with h | h | h
    · exact .inl (elementOf_none h)
    · exact .inr (.inl (lineOf_none h))
    · exact .inr (.inr (inRange_none h))
  unfold State.testRequest
  split
  · rename_i he hl hw
    simp [he, hl, hw] at bad
  · rfl

/-- LINE TEST with its arguments in range, check by check; the trigger loads the width for the line named (R140). -/
theorem State.testRequest_eq {e : Elem} {l : Line} (he : eb.toNat = e.val) (hl : lineOf lb = some l)
    (lo : 10 ≤ w.toNat) (hi : w.toNat ≤ 2000) : s.testRequest eb lb w =
    if ¬ s.clock.state = .setup then (s, refuse .phase)
    else if (s.stop (s.element e).header.group).asserted = true then (s, refuse .fieldActive)
    else if (s.element e).header.kind = .gate ∧ s.driveActive e (otherLine l) = true then (s, refuse .badArg)
    else if (s.element e).pulse.mode ≠ .idle then (s, refuse .busy)
    else (s.setElement e { s.element e with
        pulse := ⟨.shot, w.toNat, w.toNat, (s.element e).pulse.half, true, true, none⟩, test := some l },
      accept (bytes2 w.toNat)) := by
  rw [State.testRequest, elementOf_some he, hl, inRange_eq_some.mpr ⟨⟨lo, hi⟩, rfl⟩]
  simp only [Bool.and_eq_true, decide_eq_true_eq]
  rfl

end

/-- Settles O44: the checks one after the other. -/
theorem lineTestRunsNamedLine : Obligations.LineTestRunsNamedLine := by
  intro s eb lb w hh
  generalize hu : s.examined 0 = v
  intro u run refused
  have ran : ∀ (t : State) (a : Answer), v.testRequest eb lb w = (t, a) →
      run = .next (t.answered 0 (a.status.code :: padded 2 a.bytes)) := fun t a hb =>
    exec_referee (c := .lineTest 0 eb lb w) rfl rfl hh hu hb
  refine ⟨fun h => ran v (refuse .badArg) (State.testRequest_badArg h), fun e l he hl lo hi => ?_⟩
  subst hl
  intro x setup stopped crossed
  have checked := State.testRequest_eq (s := v) he (lineOf_byte l) lo hi
  rw [otherLine_eq] at checked
  refine ⟨fun hm => ran v (refuse .phase) ?_, fun hm hs => ran v (refuse .fieldActive) ?_,
    fun hm hs hc => ran v (refuse .badArg) ?_, fun hm hs hc hp => ran v (refuse .busy) ?_,
    fun hm hs hc hp => ran _ (accept (bytes2 w.toNat)) ?_⟩
  · rw [checked, if_pos hm]
  · rw [checked, if_neg (not_not.mpr hm), if_pos hs]
  · rw [checked, if_neg (not_not.mpr hm), if_neg hs, if_pos hc]
  · rw [checked, if_neg (not_not.mpr hm), if_neg hs, if_neg hc, if_pos hp]
  · rw [checked, if_neg (not_not.mpr hm), if_neg hs, if_neg hc, if_neg (not_not.mpr hp)]

end Sys2Proof.Machine

namespace Sys2Proof.Machine

/-! # Frames (R160, R162 to R167) -/

/-! ## Select edges (R162, R166, R167) -/

section
variable {p : Port} {s : State}

theorem exec_selectActive_begins (hs : s.Runs) (h : (s.port p).frame.receiver = .idle) :
    exec (.selectActive p) s = .next (s.setFrame p .begun) := by
  refine congrArg Host.Outcome.next ?_
  rw [if_neg (Bool.eq_false_iff.mp hs), State.modifyPort, h]
  rfl

/-- Writing a port's own record back changes nothing. -/
theorem State.setPort_port (p : Port) (s : State) : s.setPort p (s.port p) = s := by
  rw [State.setPort, show s.ports.set p.val (s.port p) p.isLt = s.ports from vector_ext fun i => by
    by_cases h : i = p
    · subst h
      exact get_set_self _ _ _
    · exact get_set_ne _ _ _ _ h]

/-- A receiver within a frame has its select active already (R162). -/
theorem exec_selectActive_within (h : (s.port p).frame.receiver ≠ .idle) : exec (.selectActive p) s = .next s := by
  refine congrArg Host.Outcome.next ?_
  split
  · rfl
  · rw [State.modifyPort]
    split
    case h_1 hi => exact absurd hi h
    case h_2 | h_3 | h_4 => exact s.setPort_port p

theorem exec_selectReleased_ends (hs : s.Runs) : exec (.selectReleased p) s = .next (s.setFrame p .idle) :=
  congrArg Host.Outcome.next (if_neg (Bool.eq_false_iff.mp hs))

/-! ## Frames without a request (R163) -/

/-- A code that completes the frame is answered on the examined state, its answer bytes zero. -/
theorem State.codeAnswered_heard (hh : s.Hears p) (n : Nat) (a : Status) :
    s.codeAnswered p n a = (s.examined p).answered p (a.code :: List.replicate n 0x00) := by
  obtain ⟨hr, hl⟩ := hh
  exact if_neg (by simp [hr, hl])
theorem exec_unknownAnswer_heard (hh : s.Hears p) {code : Byte} (hrow : requestRow code = none) :
    exec (.unknownAnswer p code) s = .next ((s.examined p).answered p [0x80]) := by
  simp only [exec, execUnknownAnswer, hrow, State.codeAnswered_heard hh]
  rfl
theorem exec_roleAnswer_heard (hh : s.Hears p) {code : Byte} {row : RequestRow} (hrow : requestRow code = some row)
    (ho : row.openTo (s.role p) = false) : exec (.roleAnswer p code) s =
      .next ((s.examined p).answered p (0x81 :: List.replicate row.answer 0x00)) := by
  simp only [exec, execRoleAnswer, hrow, ho, State.codeAnswered_heard hh]
  rfl

/-! ## RST (R160) -/

/-- Under RST every drive line is held inactive (R139). -/
theorem State.driveActive_of_rst (h : s.rst = true) (e : Elem) (l : Line) : s.driveActive e l = false := by
  simp [State.driveActive, State.forced, h]
theorem exec_rstActive (s : State) : exec .rstActive s =
    .next { s with ports := rewriteAll (fun _ x => x.dropFrame) s.ports, rst := true } := rfl

/-! ## Serial clocks (R162, R165) -/

variable {high : Bool}

theorem State.serialClock_ignored (h : s.rst = true ∨ (s.port p).frame.receiver = .idle) :
    s.serialClock p high = .next s := by
  unfold State.serialClock
  dsimp only
  split
  · rfl
  · rename_i hr
    rw [h.resolve_left hr]
theorem State.serialClock_bit (hs : s.Runs)
    (hf : (s.port p).frame.receiver = .code ∨ (s.port p).frame.receiver = .arguments)
    (hb : (s.port p).frame.bits.length ≤ 6) : s.serialClock p high =
      .next (s.setFrame p { (s.port p).frame with bits := (s.port p).frame.bits ++ [high] }) := by
  have short : ((s.port p).frame.bits ++ [high]).length < 8 := by
    rw [List.length_append, List.length_singleton]
    omega
  unfold State.serialClock
  rcases hf with hf | hf <;> simp only [hs, hf, if_pos short, Bool.false_eq_true, if_false]
theorem State.serialClock_answer (hs : s.Runs) (hf : (s.port p).frame.receiver = .answer) : s.serialClock p high =
    .next (s.setFrame p { (s.port p).frame with
      sent := min (8 * (s.port p).frame.answer.length) ((s.port p).frame.sent + 1) }) := by
  unfold State.serialClock
  simp only [hs, hf, Bool.false_eq_true, if_false]

end

/-! ## Data out (R162, R165, Table 9-2) -/

section
variable {f : Frame}

theorem Frame.dataOut_idle (h : f.receiver = .idle) : f.dataOut = none := by rw [Frame.dataOut, h]
theorem Frame.dataOut_request (h : f.receiver = .code ∨ f.receiver = .arguments) : f.dataOut = some false := by
  rcases h with h | h <;> rw [Frame.dataOut, h]
theorem Frame.dataOut_answer (h : f.receiver = .answer) :
    f.dataOut = some ((f.answer.getD (f.sent / 8) 0).getMsbD (f.sent % 8)) := by
  rw [Frame.dataOut, h]
  rfl
/-- Past the end of the answer 0x00 is shifted out. -/
theorem Frame.dataOut_past (h : f.receiver = .answer) (hk : f.answer.length ≤ f.sent / 8) : f.dataOut = some false := by
  rw [Frame.dataOut_answer h, List.getD_eq_default _ _ hk]
  exact congrArg some BitVec.getMsbD_zero
theorem Frame.dataOut_byte (h : f.receiver = .answer) {b : Byte} (hb : f.answer[f.sent / 8]? = some b) :
    f.dataOut = some (b.getMsbD (f.sent % 8)) := by
  rw [Frame.dataOut_answer h, List.getD_eq_getElem?_getD, hb, Option.getD_some]

end

/-- Settles O29: the edges and clocks by the receiver's state, the answers by the row of the code. -/
theorem framesBeginEndAndAreRefused : Obligations.FramesBeginEndAndAreRefused := by
  intro p s f framed
  exact ⟨exec_selectActive_begins, exec_selectActive_within, exec_selectReleased_ends,
    fun _ hh => exec_unknownAnswer_heard hh, fun _ _ hh => exec_roleAnswer_heard hh,
    ⟨_, exec_rstActive s, rfl, fun q => rewriteAll_get _ _ q, State.driveActive_of_rst rfl, rfl⟩,
    fun _ => State.serialClock_ignored, fun _ => State.serialClock_bit, fun _ => State.serialClock_answer,
    Frame.dataOut_idle, Frame.dataOut_request, Frame.dataOut_past, fun _ h => Frame.dataOut_byte h⟩

end Sys2Proof.Machine

namespace Sys2Proof.Machine

/-! # The queue of a port (R154, R179) -/

/-- A queued entry is unread for a SCORE record of its alliance (R154). -/
theorem Notice.coalesces_iff {n x : Notice} :
    n.coalesces x = true ↔ n.kind = .score ∧ x.kind = .score ∧ x.reason = n.reason := by
  simp [Notice.coalesces, and_assoc]

section
variable {q : List Notice} {n : Notice}

theorem any_coalesces : q.any n.coalesces = true ↔ ∃ x ∈ q, n.coalesces x = true := List.any_eq_true
theorem any_overflow : (q.any fun x => decide (x.kind = .overflow)) = true ↔ ∃ x ∈ q, x.kind = .overflow := by
  simp

/-- A SCORE record takes the place of an unread entry of its alliance (R154). -/
theorem enqueue_of_unread (h : ∃ x ∈ q, n.coalesces x = true) :
    enqueue q n = q.map fun x => if n.coalesces x then n else x := if_pos (any_coalesces.mpr h)

variable (h : ∀ x ∈ q, ¬ n.coalesces x = true)
include h

/-- Any other record goes by what the queue holds (R179). -/
theorem enqueue_of_read : enqueue q n =
    if q.any fun x => decide (x.kind = .overflow) then q else if q.length < 15 then q ++ [n] else q ++ [n.overflow] :=
  if_neg fun k => (any_coalesces.mp k).elim fun x hx => h x hx.1 hx.2
theorem enqueue_of_overflow (ho : ∃ x ∈ q, x.kind = .overflow) : enqueue q n = q := by
  rw [enqueue_of_read h, if_pos (any_overflow.mpr ho)]
theorem enqueue_of_room (ho : ∀ x ∈ q, x.kind ≠ .overflow) (hl : q.length ≤ 14) : enqueue q n = q ++ [n] := by
  have none : ¬ (q.any fun x => decide (x.kind = .overflow)) = true := by simpa using ho
  rw [enqueue_of_read h, if_neg none, if_pos (by omega)]
theorem enqueue_of_full (ho : ∀ x ∈ q, x.kind ≠ .overflow) (hl : 15 ≤ q.length) :
    enqueue q n = q ++ [n.overflow] := by
  have none : ¬ (q.any fun x => decide (x.kind = .overflow)) = true := by simpa using ho
  rw [enqueue_of_read h, if_neg none, if_neg (by omega)]

end

/-- Settles O9: one equation of `enqueue` for each outcome. -/
theorem queueTakesRecord : Obligations.QueueTakesRecord := by
  intro q n unread
  have coalesces : ∀ x, unread x ↔ n.coalesces x = true := fun x => Notice.coalesces_iff.symm
  simp only [coalesces]
  refine ⟨fun h => ?_, fun h => ⟨enqueue_of_overflow h, enqueue_of_room h, enqueue_of_full h⟩⟩
  rw [enqueue_of_unread h]
  refine ⟨map_coalesce_length q n, fun i x hx => ⟨fun hu => ?_, fun hu => ?_⟩⟩
  · rw [List.getElem?_map, hx, Option.map_some, if_pos hu]
  · rw [List.getElem?_map, hx, Option.map_some, if_neg hu]

/-! # One operation of the tally (R147, R148, R154) -/

/-- A sum clamped into the limits of an accumulator (R148). -/
theorem clampInt_acc (v : Int) :
    clampInt (-99999) 99999 v = if 99999 < v then 99999 else if v < -99999 then -99999 else v := by
  rw [clampInt_eq (by decide)]
  split_ifs <;> omega
/-- The published score of an accumulator (R148). -/
theorem publishedOf_eq (v : Int) : publishedOf v = if v < 0 then 0 else if 9999 < v then 9999 else v :=
  clampInt_eq (by decide)

section
variable {a : Alliance} {x : Int} {s : State}

/-- An operation that leaves the published score raises no notice (R154). -/
theorem State.addScore_ports_of_same (h : (s.addScore a x).published.get a = s.published.get a) :
    (s.addScore a x).ports = s.ports := by
  rw [State.addScore_published, if_pos rfl] at h
  unfold State.addScore
  dsimp only
  split
  · rfl
  · exact absurd h ‹_›
/-- An operation that changes the published score raises one SCORE notice with the new one (R154). -/
theorem State.addScore_handed_of_changed (h : (s.addScore a x).published.get a ≠ s.published.get a) :
    s.Handed (s.notice .score (some (.alliance a)) none none (some ((s.addScore a x).published.get a)))
      (s.addScore a x) := by
  rw [State.addScore_published, if_pos rfl] at h ⊢
  unfold State.addScore
  dsimp only
  split
  · exact absurd ‹_› h
  · exact State.raise_handed _ _ _ _ _ _

end

/-- Settles O10: the accumulator and the published score in closed form, and the notice where the score changed. -/
theorem amountIsAddedSaturating : Obligations.AmountIsAddedSaturating := by
  intro a x s t sum total score
  have accumulator : t.accumulators.get a = total := by
    rw [State.addScore_accumulator, if_pos rfl, clampInt_acc]
  have published : t.published.get a = score := by
    rw [State.addScore_published, if_pos rfl, clampInt_acc, publishedOf_eq]
  refine ⟨accumulator, published, fun b hb => ⟨?_, ?_⟩, fun h => ?_, fun h => ?_, (State.addScore_plays a x s).ports,
    State.addScore_eq a x s⟩
  · rw [State.addScore_accumulator, if_neg hb]
  · rw [State.addScore_published, if_neg hb]
  · exact State.addScore_ports_of_same (published.trans h)
  · rw [← published] at h ⊢
    exact State.addScore_handed_of_changed h

end Sys2Proof.Machine

namespace Sys2Proof.Machine

/-! # The laws of one tally operation, one queue and one buffer (R147, R154, R179, R182) -/

/-- The law of the tally speaks of each accumulator and its published score (R148). -/
theorem State.tallyOk_iff {s : State} : s.TallyOk ↔ ∀ a, -99999 ≤ s.accumulators.get a ∧
    s.accumulators.get a ≤ 99999 ∧ s.published.get a = publishedOf (s.accumulators.get a) := by
  simp only [State.TallyOk, publishedOf_eq]
theorem State.SameScores.tallyOk {s t : State} (k : s.SameScores t) (h : s.TallyOk) : t.TallyOk := by
  rw [State.TallyOk, k.accumulators, k.published]
  exact h
/-- An operation keeps the law of the tally (R148). -/
theorem State.addScore_tallyOk {s : State} (h : s.TallyOk) (a : Alliance) (x : Int) : (s.addScore a x).TallyOk := by
  rw [State.tallyOk_iff] at h ⊢
  intro b
  rw [State.addScore_accumulator, State.addScore_published]
  split
  · refine ⟨?_, ?_, rfl⟩ <;> (rw [clampInt_acc]; split_ifs <;> omega)
  · exact h b
/-- A tally at zero meets the law. -/
theorem State.tallyOk_of_zero {s : State} (h : ∀ a, s.accumulators.get a = 0 ∧ s.published.get a = 0) : s.TallyOk :=
  fun a => by
    obtain ⟨ha, hp⟩ := h a
    simp [ha, hp]

theorem queueOk_nil : queueOk [] := by simp [queueOk]
/-- The law of a queue reads kinds and reasons alone. -/
theorem queueOk_map {q : List Notice} {f : Notice → Notice} (kind : ∀ x ∈ q, (f x).kind = x.kind)
    (reason : ∀ x ∈ q, (f x).reason = x.reason) (h : queueOk q) : queueOk (q.map f) := by
  obtain ⟨length, last, inner, single⟩ := h
  refine ⟨by rwa [List.length_map], fun hl => ?_, fun n hn => ?_, ?_⟩
  · rw [List.length_map] at hl
    rw [← last hl, List.getLast?_map, Option.map_map]
    exact Option.map_congr fun x hx => kind x (List.mem_of_getLast? hx)
  · rw [← List.map_dropLast] at hn
    obtain ⟨x, hx, rfl⟩ := List.mem_map.mp hn
    rw [kind x (List.mem_of_mem_dropLast hx)]
    exact inner x hx
  · rw [List.pairwise_map]
    refine single.imp_of_mem fun hx hy hxy => ?_
    rwa [kind _ hx, kind _ hy, reason _ hx, reason _ hy]
/-- An entry may come behind entries that are no OVERFLOW entries and no SCORE entries of its alliance. -/
theorem queueOk_append {q : List Notice} {n : Notice} (h : queueOk q) (open_ : ∀ x ∈ q, x.kind ≠ .overflow)
    (fresh : ∀ x ∈ q, x.kind = .score → n.kind = .score → x.reason ≠ n.reason)
    (room : q.length ≤ 14 ∨ n.kind = .overflow) : queueOk (q ++ [n]) := by
  obtain ⟨length, last, -, single⟩ := h
  have short : q.length ≠ 16 := fun hl => by
    obtain ⟨x, hx, hk⟩ := Option.map_eq_some_iff.mp (last hl)
    exact open_ x (List.mem_of_getLast? hx) hk
  refine ⟨?_, fun hl => ?_, fun x hx => ?_, ?_⟩
  · rw [List.length_append, List.length_singleton]
    omega
  · rw [List.length_append, List.length_singleton] at hl
    rw [List.getLast?_concat, Option.map_some, room.resolve_left (by omega)]
  · rw [List.dropLast_concat] at hx
    exact open_ x hx
  · refine List.pairwise_append.mpr ⟨single, List.pairwise_singleton _ _, fun x hx y hy => ?_⟩
    rw [List.mem_singleton.mp hy]
    exact fresh x hx
/-- A record entered keeps the law of the queue, by its outcome (R154, R179). -/
theorem enqueue_queueOk {q : List Notice} (h : queueOk q) (n : Notice) : queueOk (enqueue q n) := by
  by_cases hu : ∃ x ∈ q, n.coalesces x = true
  · rw [enqueue_of_unread hu]
    refine queueOk_map (fun x _ => ?_) (fun x _ => ?_) h
    all_goals
      split
      · obtain ⟨hn, hx, hr⟩ := Notice.coalesces_iff.mp ‹_›
        simp [hn, hx, hr]
      · rfl
  · have read : ∀ x ∈ q, ¬ n.coalesces x = true := fun x hx hc => hu ⟨x, hx, hc⟩
    by_cases ho : ∃ x ∈ q, x.kind = .overflow
    · rwa [enqueue_of_overflow read ho]
    · have open_ : ∀ x ∈ q, x.kind ≠ .overflow := fun x hx hk => ho ⟨x, hx, hk⟩
      by_cases hl : q.length ≤ 14
      · rw [enqueue_of_room read open_ hl]
        exact queueOk_append h open_
          (fun x hx hk hn hr => read x hx (Notice.coalesces_iff.mpr ⟨hn, hk, hr⟩)) (.inl hl)
      · rw [enqueue_of_full read open_ (by omega)]
        exact queueOk_append h open_ (fun _ _ _ hn => by cases hn) (.inr rfl)
/-- Records entered one after the other keep the law of the queue. -/
theorem foldl_enqueue_queueOk {q : List Notice} (h : queueOk q) (ns : List Notice) : queueOk (ns.foldl enqueue q) := by
  induction ns generalizing q with
  | nil => exact h
  | cons n ns ih => exact ih (enqueue_queueOk h n)
/-- What is left behind the oldest entries keeps the law of the queue (R180). -/
theorem queueOk_drop {q : List Notice} (h : queueOk q) (k : Nat) : queueOk (q.drop k) := by
  obtain ⟨length, last, inner, single⟩ := h
  refine ⟨(List.length_drop ▸ Nat.sub_le _ _).trans length, fun hl => ?_, fun n hn => ?_, single.drop⟩
  · rw [List.length_drop] at hl
    have : k = 0 := by omega
    subst this
    exact last (by omega)
  · rw [List.dropLast_drop_eq_drop_dropLast] at hn
    exact inner n (List.mem_of_mem_drop hn)

/-- The law of a buffer reads the elements of its entries alone (R182). -/
theorem snapshotOk_map {b : List SnapEntry} {f : SnapEntry → SnapEntry} (he : ∀ x, (f x).element = x.element)
    (h : snapshotOk b) : snapshotOk (b.map f) := by
  rw [snapshotOk, List.pairwise_map]
  simpa only [he] using h
/-- The entries that SNAPSHOT latches are in element order (R182). -/
theorem latched_snapshotOk (s : State) (mask : BitVec 24) : snapshotOk ((namedElements mask).map s.latch) := by
  rw [snapshotOk, List.pairwise_map]
  exact (List.pairwise_lt_finRange 24).filter _

end Sys2Proof.Machine

namespace Sys2Proof.Machine

/-! # What a change keeps of the books: tally, notice queues and snapshot buffers (R147, R154, R179, R182) -/

/-- What a change keeps: the law of the tally, and port by port those of the notice queue and of the snapshot buffer. -/
structure State.KeepsBooks (s t : State) : Prop where
  tally : s.TallyOk → t.TallyOk
  queues : ∀ q, queueOk (s.port q).queue → queueOk (t.port q).queue
  snapshots : ∀ q, snapshotOk (s.port q).snapshot → snapshotOk (t.port q).snapshot

theorem State.KeepsBooks.refl (s : State) : s.KeepsBooks s := ⟨id, fun _ => id, fun _ => id⟩
theorem State.KeepsBooks.trans {a b c : State} (h : a.KeepsBooks b) (k : b.KeepsBooks c) : a.KeepsBooks c :=
  ⟨fun t => k.tally (h.tally t), fun q u => k.queues q (h.queues q u), fun q u => k.snapshots q (h.snapshots q u)⟩
theorem State.forEach_keepsBooks {ι : Type} {xs : List ι} {act : ι → State → State}
    (h : ∀ i (s : State), s.KeepsBooks (act i s)) (s : State) : s.KeepsBooks (s.forEach xs act) :=
  State.forEach_rel State.KeepsBooks .refl .trans h s
theorem State.takeEach_keepsBooks {ι : Type} {xs : List ι} {due : State → ι → Bool} {act : ι → State → State}
    (h : ∀ i (s : State), s.KeepsBooks (act i s)) (s : State) : s.KeepsBooks (s.takeEach xs due act) := by
  refine State.forEach_keepsBooks (fun i s => ?_) s
  split
  · exact h i s
  · exact .refl s

/-! ## Single writes -/

/-- A write beside ports and scores. -/
theorem State.keepsBooks_of_same {s t : State} (hp : t.ports = s.ports) (hs : s.SameScores t) : s.KeepsBooks t := by
  have port : ∀ q, t.port q = s.port q := fun q => by rw [State.port, State.port, hp]
  exact ⟨hs.tallyOk, fun q => by rw [port]; exact id, fun q => by rw [port]; exact id⟩
theorem State.modifyElement_keepsBooks (e : Elem) (f : Element → Element) (s : State) :
    s.KeepsBooks (s.modifyElement e f) := State.keepsBooks_of_same rfl ⟨rfl, rfl⟩
theorem State.modifyRobot_keepsBooks (r : Robot) (f : RobotRecord → RobotRecord) (s : State) :
    s.KeepsBooks (s.modifyRobot r f) := State.keepsBooks_of_same rfl ⟨rfl, rfl⟩
theorem State.setRobot_keepsBooks (r : Robot) (x : RobotRecord) (s : State) : s.KeepsBooks (s.setRobot r x) :=
  State.keepsBooks_of_same rfl ⟨rfl, rfl⟩
theorem State.setClaim_keepsBooks (e : Elem) (c : ClaimRecord) (s : State) : s.KeepsBooks (s.setClaim e c) :=
  State.keepsBooks_of_same rfl ⟨rfl, rfl⟩
theorem State.setStop_keepsBooks (g : Group) (x : FieldStop) (s : State) : s.KeepsBooks (s.setStop g x) :=
  State.keepsBooks_of_same rfl ⟨rfl, rfl⟩
theorem State.setClock_keepsBooks (c : Clock) (s : State) : s.KeepsBooks (s.setClock c) :=
  State.keepsBooks_of_same rfl ⟨rfl, rfl⟩
theorem State.setStage_keepsBooks (st : Stage) (s : State) : s.KeepsBooks { s with stage := st } :=
  State.keepsBooks_of_same rfl ⟨rfl, rfl⟩
theorem State.modifyPort_keepsBooks {p : Port} {f : PortRecord → PortRecord} {s : State}
    (hq : queueOk (s.port p).queue → queueOk (f (s.port p)).queue)
    (hb : snapshotOk (s.port p).snapshot → snapshotOk (f (s.port p)).snapshot) :
    s.KeepsBooks (s.modifyPort p f) := by
  refine ⟨id, fun q => ?_, fun q => ?_⟩ <;> rw [State.port_modifyPort] <;> split
  · rename_i h; subst h; exact hq
  · exact id
  · rename_i h; subst h; exact hb
  · exact id

/-! ## Records handed (R176, R179) -/

/-- Records handed, with the scores as they are. -/
theorem State.HandedAll.keepsBooks {ns : List Notice} {s t : State} (h : s.HandedAll ns t) (hp : s.SamePorts t)
    (hs : s.SameScores t) : s.KeepsBooks t where
  tally := hs.tallyOk
  queues := fun q k => by rw [h q]; exact foldl_enqueue_queueOk k _
  snapshots := fun q k => by rw [hp.field PortRecord.snapshot (fun _ => rfl) q]; exact k
theorem State.OnlyHands.keepsBooks {ns : List Notice} {s t : State} (h : s.OnlyHands ns t) : s.KeepsBooks t :=
  h.handed.keepsBooks h.ports ⟨by rw [h.rest], by rw [h.rest]⟩
theorem State.raise_keepsBooks (k : NoticeKind) (re : Option Reason) (r : Option Robot) (e : Option Elem)
    (v : Option Int) (s : State) : s.KeepsBooks (s.raise k re r e v) := (State.raise_onlyHands k re r e v s).keepsBooks
theorem State.raiseRobot_keepsBooks (re : Reason) (r : Robot) (s : State) : s.KeepsBooks (s.raiseRobot re r) :=
  State.raise_keepsBooks _ _ _ _ _ s
/-- A step of the arbiter that hands the same records whatever the queues hold. -/
theorem State.Twins.keepsBooks {s s' t t' : State} (h : s.Twins s' t t') : s.KeepsBooks t := by
  obtain ⟨ns, -, handed, -⟩ := h.handed
  exact handed.keepsBooks h.plays.plays.ports h.plays.scores

/-! ## The claim arbiter and the engines (chapters 4 and 5) -/

section
variable (e : Elem) (s : State)

theorem State.takeBlock_keepsBooks (b : BlockCause) : s.KeepsBooks (s.takeBlock e b) :=
  ((State.SameButQueues.refl s).takeBlock e b).keepsBooks
theorem State.settleReturn_keepsBooks : s.KeepsBooks (s.settleReturn e) :=
  ((State.SameButQueues.refl s).settleReturn e).keepsBooks
theorem State.finishReturn_keepsBooks : s.KeepsBooks (s.finishReturn e) :=
  ((State.SameButQueues.refl s).finishReturn e).keepsBooks
theorem State.jam_keepsBooks : s.KeepsBooks (s.jam e) := ((State.SameButQueues.refl s).jam e).keepsBooks
theorem State.startMotion_keepsBooks (d : Direction) (q : Purpose) : s.KeepsBooks (s.startMotion e d q) :=
  ((State.SameButQueues.refl s).startMotion e d q).keepsBooks
theorem State.enterReturning_keepsBooks (t : ClaimTimer) : s.KeepsBooks (s.enterReturning e t) :=
  ((State.SameButQueues.refl s).enterReturning e t).keepsBooks
theorem State.leaveHolder_keepsBooks (r : Robot) (c : Cause) : s.KeepsBooks (s.leaveHolder e r c) :=
  ((State.SameButQueues.refl s).leaveHolder e r c).keepsBooks
theorem State.homeGate_keepsBooks : s.KeepsBooks (s.homeGate e) :=
  ((State.SameButQueues.refl s).homeGate e).keepsBooks

theorem State.endClaim_keepsBooks (c : Cause) : s.KeepsBooks (s.endClaim e c) := by
  unfold State.endClaim
  split
  · exact (State.leaveHolder_keepsBooks e s _ c).trans (State.finishReturn_keepsBooks e _)
  all_goals exact .refl s
theorem State.startPendingFeed_keepsBooks : s.KeepsBooks (s.startPendingFeed e) := by
  unfold State.startPendingFeed
  split <;> exact State.modifyElement_keepsBooks e _ s
theorem State.feedAtBoundary_keepsBooks : s.KeepsBooks (s.feedAtBoundary e) := by
  unfold State.feedAtBoundary
  split
  · split <;> exact State.modifyElement_keepsBooks e _ s
  · exact .refl s
theorem State.takeArrival_keepsBooks : s.KeepsBooks (s.takeArrival e) := by
  unfold State.takeArrival
  split
  · exact (State.modifyElement_keepsBooks e _ s).trans (State.finishReturn_keepsBooks e _)
  · exact .refl s
theorem State.stopElement_keepsBooks : s.KeepsBooks (s.stopElement e) := by
  have ended := State.modifyElement_keepsBooks e Element.endTest s
  unfold State.stopElement
  dsimp only
  split
  · exact ended
  · exact (ended.trans (State.modifyElement_keepsBooks e _ _)).trans (State.takeBlock_keepsBooks e _ _)
theorem State.brakeEnd_keepsBooks : s.KeepsBooks (s.brakeEnd e) := by
  unfold State.brakeEnd
  split
  · exact (State.startMotion_keepsBooks e s _ _).trans (State.finishReturn_keepsBooks e _)
  all_goals exact .refl s
theorem State.shotExpiry_keepsBooks : s.KeepsBooks (s.shotExpiry e) := by
  have ended := State.modifyElement_keepsBooks e (fun x => { x with pulse := x.pulse.shotEnd, test := none }) s
  unfold State.shotExpiry
  dsimp only
  split
  · exact ended
  · split
    · split
      · exact ended.trans (State.jam_keepsBooks e _)
      · exact ended
    · split
      · exact (ended.trans (State.modifyElement_keepsBooks e _ _)).trans (State.endClaim_keepsBooks e _ _)
      · exact ended
    all_goals exact ended
theorem State.strobeExpiry_keepsBooks : s.KeepsBooks (s.strobeExpiry e) := by
  have fired := State.modifyElement_keepsBooks e (fun x => { x with pulse := x.pulse.strobeFire }) s
  unfold State.strobeExpiry
  dsimp only
  split
  · exact fired.trans (State.brakeEnd_keepsBooks e _)
  · exact fired
theorem State.timerExpiry_keepsBooks : s.KeepsBooks (s.timerExpiry e) := by
  have stopped := State.modifyElement_keepsBooks e (fun x => { x with timer := .stopped }) s
  unfold State.timerExpiry
  dsimp only
  split
  · exact stopped.trans (State.endClaim_keepsBooks e _ _)
  · exact stopped.trans (State.finishReturn_keepsBooks e _)
  all_goals exact stopped
theorem State.takeReturnEnd_keepsBooks : s.KeepsBooks (s.takeReturnEnd e) := by
  unfold State.takeReturnEnd
  dsimp only
  split
  · exact State.takeArrival_keepsBooks e s
  · split
    · exact State.timerExpiry_keepsBooks e s
    · exact State.settleReturn_keepsBooks e s

/-! ## Credits (R106, R109, R149) -/

theorem State.addScore_keepsBooks (a : Alliance) (x : Int) : s.KeepsBooks (s.addScore a x) where
  tally := fun h => State.addScore_tallyOk h a x
  queues := fun q => by
    by_cases h : (s.addScore a x).published.get a = s.published.get a
    · intro k
      rw [State.port, State.addScore_ports_of_same h]
      exact k
    · rw [State.addScore_handed_of_changed h q]
      split
      · exact fun k => enqueue_queueOk k _
      · exact id
  snapshots := fun q => by
    rw [State.SamePorts.field (State.addScore_plays a x s).ports PortRecord.snapshot (fun _ => rfl) q]
    exact id
theorem State.credit_keepsBooks (a : Alliance) (w : Nat) : s.KeepsBooks (s.credit a w) := by
  unfold State.credit
  split
  · exact State.addScore_keepsBooks s a _
  · exact .refl s
theorem State.creditPiece_keepsBooks : s.KeepsBooks (s.creditPiece e) := by
  unfold State.creditPiece
  dsimp only
  repeat' split
  all_goals first
    | exact State.credit_keepsBooks s _ _
    | exact State.modifyElement_keepsBooks e _ s
    | exact .refl s
theorem State.lightLamp_keepsBooks : s.KeepsBooks (s.lightLamp e) := by
  unfold State.lightLamp
  dsimp only
  split
  · exact State.modifyElement_keepsBooks e _ s
  · exact .refl s
theorem State.takePiece_keepsBooks : s.KeepsBooks (s.takePiece e) := by
  have counted := State.modifyElement_keepsBooks e (fun x => { x with pieces := countUp x.pieces }) s
  unfold State.takePiece
  split
  · exact counted
  · exact (counted.trans (State.creditPiece_keepsBooks e _)).trans (State.lightLamp_keepsBooks e _)
  all_goals exact .refl s
theorem State.creditInterval_keepsBooks : s.KeepsBooks (s.creditInterval e) := by
  unfold State.creditInterval
  split
  · split
    · exact State.credit_keepsBooks s _ _
    · exact .refl s
  · exact .refl s
theorem State.rateExpiry_keepsBooks : s.KeepsBooks (s.rateExpiry e) :=
  (State.modifyElement_keepsBooks e _ s).trans (State.creditInterval_keepsBooks e _)
theorem State.takePulse_keepsBooks : s.KeepsBooks (s.takePulse e) := by
  unfold State.takePulse
  dsimp only
  split
  · exact State.shotExpiry_keepsBooks e s
  · split
    · exact State.rateExpiry_keepsBooks e s
    · split
      · exact State.modifyElement_keepsBooks e _ s
      · split
        · exact State.strobeExpiry_keepsBooks e s
        · exact .refl s

end

/-! ## Events of the roster and of the lines -/

section
variable (s : State)

theorem State.unseat_keepsBooks (r : Robot) (c : Cause) (before : State) : s.KeepsBooks (s.unseat r c before) := by
  unfold State.unseat
  split
  · exact State.leaveHolder_keepsBooks _ s r c
  · split
    · exact (State.setClaim_keepsBooks _ _ s).trans (State.raise_keepsBooks _ _ _ _ _ _)
    · exact .refl s
theorem State.removeRobot_keepsBooks (r : Robot) (c : Cause) : s.KeepsBooks (s.removeRobot r c) := by
  unfold State.removeRobot
  split
  · exact (s.unseat_keepsBooks r c s).trans (State.finishReturn_keepsBooks _ _)
  · exact s.unseat_keepsBooks r c s
theorem State.silenceExpiry_keepsBooks (p : Port) : s.KeepsBooks (s.silenceExpiry p) :=
  ((State.modifyPort_keepsBooks id id).trans (State.forEach_keepsBooks (fun r t =>
    (State.raiseRobot_keepsBooks .stale r t).trans (State.unseat_keepsBooks _ r .stale s)) _)).trans
    (State.forEach_keepsBooks State.finishReturn_keepsBooks _)
theorem State.takeSilences_keepsBooks : s.KeepsBooks s.takeSilences :=
  State.takeEach_keepsBooks (fun p s => s.silenceExpiry_keepsBooks p) s
theorem State.benchExpiry_keepsBooks (r : Robot) : s.KeepsBooks (s.benchExpiry r) :=
  (State.modifyRobot_keepsBooks r _ s).trans (State.raiseRobot_keepsBooks _ _ _)
theorem State.assertStop_keepsBooks (g : Group) : s.KeepsBooks (s.assertStop g) :=
  ((State.setStop_keepsBooks g _ s).trans (State.raise_keepsBooks _ _ _ _ _ _)).trans
    (State.forEach_keepsBooks State.stopElement_keepsBooks _)
theorem State.releaseStop_keepsBooks (g : Group) : s.KeepsBooks (s.releaseStop g) :=
  (State.setStop_keepsBooks g _ s).trans (State.raise_keepsBooks _ _ _ _ _ _)
theorem State.takeStop_keepsBooks (g : Group) : s.KeepsBooks (s.takeStop g) := by
  unfold State.takeStop
  split
  · exact s.assertStop_keepsBooks g
  · split
    · exact s.releaseStop_keepsBooks g
    · exact .refl s
theorem State.acceptSense_keepsBooks (e : Elem) (i : SenseId) : s.KeepsBooks (s.acceptSense e i) := by
  refine (State.modifyElement_keepsBooks e (fun x => x.setSense i ⟨!(x.sense i).high, none⟩) s).trans ?_
  unfold State.acceptSense
  dsimp only
  repeat' split
  all_goals first
    | exact .refl _
    | exact State.jam_keepsBooks e _
    | exact State.takePiece_keepsBooks e _
    | exact State.modifyElement_keepsBooks e _ _
theorem State.frameComplete_keepsBooks (p : Port) : s.KeepsBooks (s.frameComplete p) := by
  have live : s.KeepsBooks (s.modifyPort p fun x =>
      { x with link := .live, silence := s.timing.silence, silenceDue := false }) := State.modifyPort_keepsBooks id id
  unfold State.frameComplete
  dsimp only
  split
  · split
    · exact live.trans (State.forEach_keepsBooks (State.raiseRobot_keepsBooks .live) _)
    · exact live
  · exact .refl s

/-! ## Boundaries and ticks -/

theorem State.transition_keepsBooks (reason : Reason) (c : Clock) : s.KeepsBooks (s.transition reason c) :=
  (State.setClock_keepsBooks c s).trans (State.transition_onlyHands reason c s).keepsBooks
/-- Clock and plan store at a boundary: records are handed and snapshot entries VOID (R7, R41, R183). -/
theorem State.prepared_keepsBooks (reason : Reason) (c : Clock) : s.KeepsBooks (s.prepared reason c) where
  tally := State.SameScores.tallyOk ⟨by rw [State.prepared_eq], by rw [State.prepared_eq]⟩
  queues := fun q k => by
    rw [State.prepared_port]
    exact foldl_enqueue_queueOk k _
  snapshots := fun q k => by
    rw [State.prepared_port]
    exact snapshotOk_map (fun y => by split <;> rfl) k
theorem State.announceEnables_keepsBooks (before : State) : s.KeepsBooks (s.announceEnables before) :=
  (s.announceEnables_onlyHands before).keepsBooks
theorem State.claimsAtBoundary_keepsBooks : s.KeepsBooks s.claimsAtBoundary :=
  (State.SameButQueues.refl s).claimsAtBoundary.keepsBooks
/-- Roster and arbiter at a boundary, in either order of their notices (R87). -/
theorem State.rosterAndArbiter_keepsBooks (before : State) : s.KeepsBooks (s.rosterAndArbiter before) := by
  have rosterFirst := (s.announceEnables_keepsBooks before).trans (State.claimsAtBoundary_keepsBooks _)
  have arbiterFirst := s.claimsAtBoundary_keepsBooks.trans (State.announceEnables_keepsBooks _ before)
  rw [State.rosterAndArbiter_eq]
  generalize (s.announceEnables before).claimsAtBoundary = x at rosterFirst
  generalize s.claimsAtBoundary.announceEnables before = y at arbiterFirst
  cases Config.arbiterFirst s.boundaries
  · exact ⟨rosterFirst.tally, rosterFirst.queues, rosterFirst.snapshots⟩
  · exact ⟨rosterFirst.tally, arbiterFirst.queues, arbiterFirst.snapshots⟩
theorem State.enter_keepsBooks (reason : Reason) (c : Clock) : s.KeepsBooks (s.enter reason c) := by
  rw [State.enter_eq]
  exact ((s.prepared_keepsBooks reason c).trans (State.rosterAndArbiter_keepsBooks _ s)).trans
    (State.forEach_keepsBooks State.feedAtBoundary_keepsBooks _)
theorem State.autoExpiry_keepsBooks : s.KeepsBooks s.autoExpiry := by
  unfold State.autoExpiry
  dsimp only
  split
  · exact s.takeSilences_keepsBooks.trans (State.enter_keepsBooks _ _ _)
  · exact s.enter_keepsBooks _ _
theorem State.breakExpiry_keepsBooks : s.KeepsBooks s.breakExpiry :=
  s.takeSilences_keepsBooks.trans (State.enter_keepsBooks _ _ _)
theorem State.thresholdReached_keepsBooks : s.KeepsBooks s.thresholdReached :=
  s.takeSilences_keepsBooks.trans (State.enter_keepsBooks _ _ _)
theorem State.takePhase_keepsBooks : s.KeepsBooks s.takePhase := by
  unfold State.takePhase
  split
  · exact s.autoExpiry_keepsBooks
  · split
    · exact s.breakExpiry_keepsBooks
    · split
      · exact s.thresholdReached_keepsBooks
      · split
        · exact s.enter_keepsBooks _ _
        · exact .refl s

/-- What a tick leaves outstanding keeps the books. -/
theorem State.settled_keepsBooks : s.KeepsBooks s.settled :=
  ((((((((((s.takeSilences_keepsBooks).trans
    (State.takeEach_keepsBooks (fun r t => t.benchExpiry_keepsBooks r) _)).trans
    (State.forEach_keepsBooks State.takePulse_keepsBooks _)).trans
    (State.takeEach_keepsBooks State.timerExpiry_keepsBooks _)).trans
    (State.takeEach_keepsBooks (fun e t => t.acceptSense_keepsBooks e .s0) _)).trans
    (State.takeEach_keepsBooks (fun e t => t.acceptSense_keepsBooks e .s1) _)).trans
    (State.forEach_keepsBooks (fun g t => t.takeStop_keepsBooks g) _)).trans
    (State.takeEach_keepsBooks State.startPendingFeed_keepsBooks _)).trans
    (State.takeEach_keepsBooks State.takeArrival_keepsBooks _)).trans
    (State.takeEach_keepsBooks State.settleReturn_keepsBooks _)).trans (State.takePhase_keepsBooks _)
theorem State.examined_keepsBooks (p : Port) : s.KeepsBooks (s.examined p) :=
  s.settled_keepsBooks.trans (State.frameComplete_keepsBooks _ p)
/-- The counting of a tick writes the silence timers of the ports alone (R53). -/
theorem State.count_keepsBooks (sense : BitVec 48) (fs : BitVec 4) : s.KeepsBooks (s.count sense fs) := by
  refine ⟨(s.count_sameScores sense fs).tallyOk, fun q => ?_, fun q => ?_⟩ <;> rw [State.count_port] <;>
    split <;> exact id

/-- Every event keeps the books. -/
theorem State.event_keepsBooks {c : Instr} {due : State → Bool} {act : State → State}
    (hc : eventOf c = some (due, act)) : s.KeepsBooks (act s) := by
  cases c <;> cases hc
  case autoExpiry => exact s.autoExpiry_keepsBooks
  case breakExpiry => exact s.breakExpiry_keepsBooks
  case endgameThreshold => exact s.thresholdReached_keepsBooks
  case naturalFinish => exact s.enter_keepsBooks _ _
  case feedPendingStart e => exact State.startPendingFeed_keepsBooks e s
  case benchExpiry r => exact s.benchExpiry_keepsBooks r
  case silenceExpiry p => exact s.silenceExpiry_keepsBooks p
  case shotExpiry e => exact State.shotExpiry_keepsBooks e s
  case rateExpiry e => exact State.rateExpiry_keepsBooks e s
  case waveHalfChange e => exact State.modifyElement_keepsBooks e _ s
  case strobeExpiry e => exact State.strobeExpiry_keepsBooks e s
  case claimTimerExpiry e => exact State.timerExpiry_keepsBooks e s
  case senseChangeAccepted e i => exact s.acceptSense_keepsBooks e i
  case fieldStopAsserted g => exact s.assertStop_keepsBooks g
  case fieldStopReleased g => exact s.releaseStop_keepsBooks g
  case gateArrival e => exact State.takeArrival_keepsBooks e s
  case returnEnd e => exact State.takeReturnEnd_keepsBooks e s

end

end Sys2Proof.Machine

namespace Sys2Proof.Machine

/-! # Requests, commands and steps keep the books -/

section
variable (s : State)

/-! ## The requests of every role and of a bridge (R62 to R67, R92, R100, R180 to R184) -/

theorem State.takeNotices_keepsBooks (p : Port) (count : Byte) : s.KeepsBooks (s.takeNotices p count).1 := by
  unfold State.takeNotices
  split
  · dsimp only
    exact State.modifyPort_keepsBooks (fun h => queueOk_drop h _) id
  · exact .refl s
theorem State.latchSnapshot_keepsBooks (p : Port) (mask : BitVec 24) : s.KeepsBooks (s.latchSnapshot p mask).1 := by
  unfold State.latchSnapshot
  split
  · exact .refl s
  · split
    · exact .refl s
    · dsimp only
      exact State.modifyPort_keepsBooks id fun _ => latched_snapshotOk s mask
theorem State.takeSnapshot_keepsBooks (p : Port) : s.KeepsBooks (s.takeSnapshot p).1 := by
  dsimp only [State.takeSnapshot]
  exact State.modifyPort_keepsBooks id fun _ => .nil
theorem State.claimRequest_keepsBooks (p : Port) (robot element : Byte) :
    s.KeepsBooks (s.claimRequest p robot element).1 := by
  unfold State.claimRequest State.grantClaim State.queueClaim
  dsimp only
  repeat' split
  all_goals exact State.keepsBooks_of_same rfl ⟨rfl, rfl⟩
theorem State.releaseRequest_keepsBooks (p : Port) (robot element : Byte) :
    s.KeepsBooks (s.releaseRequest p robot element).1 := by
  unfold State.releaseRequest
  repeat' split
  all_goals first
    | exact .refl s
    | exact State.endClaim_keepsBooks _ s _
theorem State.withdrawRequest_keepsBooks (p : Port) (robot : Byte) : s.KeepsBooks (s.withdrawRequest p robot).1 := by
  unfold State.withdrawRequest
  repeat' split
  all_goals exact State.keepsBooks_of_same rfl ⟨rfl, rfl⟩
theorem State.moveGate_keepsBooks (e : Elem) (d : Direction) : s.KeepsBooks (s.moveGate e d).1 := by
  unfold State.moveGate
  split
  all_goals first
    | exact State.keepsBooks_of_same rfl ⟨rfl, rfl⟩
    | exact State.startMotion_keepsBooks _ s _ _
theorem State.moveRequest_keepsBooks (p : Port) (robot element direction : Byte) :
    s.KeepsBooks (s.moveRequest p robot element direction).1 := by
  unfold State.moveRequest
  repeat' split
  all_goals first
    | exact .refl s
    | exact s.moveGate_keepsBooks _ _
theorem State.dispenseRequest_keepsBooks (p : Port) (robot element : Byte) :
    s.KeepsBooks (s.dispenseRequest p robot element).1 := by
  unfold State.dispenseRequest
  dsimp only
  repeat' split
  all_goals exact State.keepsBooks_of_same rfl ⟨rfl, rfl⟩

/-! ## The requests on the plan (R9, R24, R27, R44, R45, R140) -/

theorem State.timingRequest_keepsBooks (a : TimingArgs) : s.KeepsBooks (s.timingRequest a).1 := by
  unfold State.timingRequest
  split <;> exact State.keepsBooks_of_same rfl ⟨rfl, rfl⟩
theorem State.voidSnapshots_keepsBooks (e : Elem) : s.KeepsBooks (s.voidSnapshots e) := by
  refine ⟨id, fun q k => ?_, fun q k => ?_⟩ <;> rw [State.voidSnapshots_port]
  · exact k
  · exact snapshotOk_map (fun y => by split <;> rfl) k
theorem State.elementRequest_keepsBooks (element : Byte) (a : HeaderArgs) :
    s.KeepsBooks (s.elementRequest element a).1 := by
  unfold State.elementRequest
  dsimp only
  repeat' split
  all_goals first
    | exact .refl s
    | exact (State.modifyElement_keepsBooks _ _ s).trans (State.voidSnapshots_keepsBooks _ _)
theorem State.profileRequest_keepsBooks (element phase : Byte) (a : ProfileArgs) :
    s.KeepsBooks (s.profileRequest element phase a).1 := by
  unfold State.profileRequest
  repeat' split
  all_goals exact State.keepsBooks_of_same rfl ⟨rfl, rfl⟩
theorem State.bindRequest_keepsBooks (robot port alliance : Byte) :
    s.KeepsBooks (s.bindRequest robot port alliance).1 := by
  unfold State.bindRequest
  repeat' split
  all_goals exact State.keepsBooks_of_same rfl ⟨rfl, rfl⟩
theorem State.unbindRequest_keepsBooks (robot : Byte) : s.KeepsBooks (s.unbindRequest robot).1 := by
  unfold State.unbindRequest
  repeat' split
  all_goals exact State.keepsBooks_of_same rfl ⟨rfl, rfl⟩
theorem State.testRequest_keepsBooks (element line : Byte) (width : Half) :
    s.KeepsBooks (s.testRequest element line width).1 := by
  unfold State.testRequest
  dsimp only
  repeat' split
  all_goals exact State.keepsBooks_of_same rfl ⟨rfl, rfl⟩

/-! ## The requests on the match (R10 to R21) -/

theorem State.voidStage_keepsBooks : s.KeepsBooks s.voidStage := by
  unfold State.voidStage
  split
  · exact .refl s
  all_goals exact (State.setStage_keepsBooks _ s).trans (State.raise_keepsBooks _ _ _ _ _ _)
theorem State.armRequest_keepsBooks : s.KeepsBooks s.armRequest.1 := by
  unfold State.armRequest
  split
  · exact .refl s
  · split
    · exact .refl s
    · split
      · exact .refl s
      · dsimp only
        exact ((s.transition_keepsBooks _ _).trans
          (State.forEach_keepsBooks (fun e t => State.modifyElement_keepsBooks e _ t) _)).trans
          (State.forEach_keepsBooks State.homeGate_keepsBooks _)
theorem State.disarmRequest_keepsBooks : s.KeepsBooks s.disarmRequest.1 := by
  unfold State.disarmRequest
  split
  · exact .refl s
  · dsimp only
    exact ((s.transition_keepsBooks _ _).trans (State.voidStage_keepsBooks _)).trans
      (State.forEach_keepsBooks (fun e t => State.modifyElement_keepsBooks e _ t) _)
theorem State.startRequest_keepsBooks : s.KeepsBooks s.startRequest.1 := by
  unfold State.startRequest
  split
  · exact .refl s
  · split
    · exact .refl s
    · dsimp only
      exact s.enter_keepsBooks _ _
theorem State.haltRequest_keepsBooks : s.KeepsBooks s.haltRequest.1 := by
  unfold State.haltRequest
  split
  · dsimp only
    exact (s.transition_keepsBooks _ _).trans (State.announceEnables_keepsBooks _ s)
  · split <;> exact .refl s
theorem State.resumeRequest_keepsBooks : s.KeepsBooks s.resumeRequest.1 := by
  unfold State.resumeRequest
  split
  · dsimp only
    exact (s.transition_keepsBooks _ _).trans (State.announceEnables_keepsBooks _ s)
  · exact .refl s
theorem State.abortRequest_keepsBooks : s.KeepsBooks s.abortRequest.1 := by
  unfold State.abortRequest
  split
  · dsimp only
    exact s.enter_keepsBooks _ _
  · exact .refl s
theorem State.finaliseRequest_keepsBooks : s.KeepsBooks s.finaliseRequest.1 := by
  unfold State.finaliseRequest
  split
  · dsimp only
    exact s.transition_keepsBooks _ _
  · exact .refl s
/-- NEW MATCH zeroes the tally and leaves queues and buffers as they are (R21, R159). -/
theorem State.newMatchEvent_keepsBooks : s.KeepsBooks s.newMatchEvent := by
  refine ⟨fun _ => State.tallyOk_of_zero s.newMatchEvent_scores, fun q => ?_, fun q => ?_⟩ <;>
    rw [State.newMatchEvent_port] <;> exact id
theorem State.newMatchRequest_keepsBooks : s.KeepsBooks s.newMatchRequest.1 := by
  unfold State.newMatchRequest
  split
  · dsimp only
    exact (s.transition_keepsBooks _ _).trans (State.newMatchEvent_keepsBooks _)
  · exact .refl s

/-! ## The requests on robots, scores and elements (R46 to R48, R67, R81, R125, R151, R152) -/

theorem State.penaltyPoints_keepsBooks (r : Robot) (points : Nat) : s.KeepsBooks (s.penaltyPoints r points) := by
  unfold State.penaltyPoints
  split
  · exact s.addScore_keepsBooks _ _
  · exact .refl s
theorem State.tellStanding_keepsBooks (r : Robot) (reason : Reason) : s.KeepsBooks (s.tellStanding r reason) := by
  unfold State.tellStanding
  split
  · exact s.removeRobot_keepsBooks r _
  · exact s.removeRobot_keepsBooks r _
  · exact .refl s
theorem State.penaltyRequest_keepsBooks (robot points bench : Byte) :
    s.KeepsBooks (s.penaltyRequest robot points bench).1 := by
  unfold State.penaltyRequest
  split
  · exact .refl s
  · split
    · split
      · exact .refl s
      · rename_i r _ _
        have scored := s.penaltyPoints_keepsBooks r points.toNat
        dsimp only
        split
        · exact scored
        · exact ((scored.trans (State.setRobot_keepsBooks r _ _)).trans (State.raiseRobot_keepsBooks _ r _)).trans
            (State.tellStanding_keepsBooks _ r _)
    · exact .refl s
theorem State.adjustRequest_keepsBooks (alliance : Byte) (amount : Half) :
    s.KeepsBooks (s.adjustRequest alliance amount).1 := by
  unfold State.adjustRequest
  repeat' split
  all_goals first
    | exact .refl s
    | exact s.addScore_keepsBooks _ _
theorem State.freeRequest_keepsBooks (element : Byte) : s.KeepsBooks (s.freeRequest element).1 := by
  unfold State.freeRequest
  repeat' split
  all_goals first
    | exact .refl s
    | exact State.endClaim_keepsBooks _ s _
theorem State.rearmElement_keepsBooks (e : Elem) : s.KeepsBooks (s.rearmElement e) := by
  have left : s.KeepsBooks (s.setClaimState e .returning) := State.setClaim_keepsBooks e _ s
  have settled := ((left.trans (State.raise_keepsBooks .element (some .rearmed) none (some e) none _)).trans
    (State.enterReturning_keepsBooks e _ .stopped)).trans (State.finishReturn_keepsBooks e _)
  unfold State.rearmElement
  dsimp only
  split
  · exact settled.trans (State.modifyElement_keepsBooks e _ _)
  · exact settled
theorem State.rearmRequest_keepsBooks (element : Byte) : s.KeepsBooks (s.rearmRequest element).1 := by
  unfold State.rearmRequest
  repeat' split
  all_goals first
    | exact .refl s
    | exact s.rearmElement_keepsBooks _
theorem State.tuneRequest_keepsBooks (element : Byte) (value : Half) :
    s.KeepsBooks (s.tuneRequest element value).1 := by
  unfold State.tuneRequest
  dsimp only
  repeat' split
  all_goals exact State.keepsBooks_of_same rfl ⟨rfl, rfl⟩

/-! ## Every request, every command, every step -/

theorem State.request_keepsBooks {c : Instr} {p : Port} {code : Byte} {body : State → State × Answer}
    (hq : requestOf c = some (p, code, body)) : s.KeepsBooks (body s).1 := by
  cases c <;> cases hq
  case ping | readClock | readScores | readRobot | readElement => exact .refl s
  case readNotice => exact s.takeNotices_keepsBooks _ _
  case subscribe => dsimp only [State.storeMask]; exact State.modifyPort_keepsBooks id id
  case snapshot => exact s.latchSnapshot_keepsBooks _ _
  case readSnapshot => exact s.takeSnapshot_keepsBooks _
  case claim => exact s.claimRequest_keepsBooks _ _ _
  case release => exact s.releaseRequest_keepsBooks _ _ _
  case withdraw => exact s.withdrawRequest_keepsBooks _ _
  case move => exact s.moveRequest_keepsBooks _ _ _ _
  case dispense => exact s.dispenseRequest_keepsBooks _ _ _
  case setTiming => exact s.timingRequest_keepsBooks _
  case setElement => exact s.elementRequest_keepsBooks _ _
  case setProfile => exact s.profileRequest_keepsBooks _ _ _
  case bind => exact s.bindRequest_keepsBooks _ _ _
  case unbind => exact s.unbindRequest_keepsBooks _
  case lineTest => exact s.testRequest_keepsBooks _ _ _
  case arm => exact s.armRequest_keepsBooks
  case disarm => exact s.disarmRequest_keepsBooks
  case start => exact s.startRequest_keepsBooks
  case halt => exact s.haltRequest_keepsBooks
  case resume => exact s.resumeRequest_keepsBooks
  case abort => exact s.abortRequest_keepsBooks
  case finalise => exact s.finaliseRequest_keepsBooks
  case newMatch => exact s.newMatchRequest_keepsBooks
  case penalty => exact s.penaltyRequest_keepsBooks _ _ _
  case adjust => exact s.adjustRequest_keepsBooks _ _
  case free => exact s.freeRequest_keepsBooks _
  case rearm => exact s.rearmRequest_keepsBooks _
  case tune => exact s.tuneRequest_keepsBooks _ _
  case stageOpen => rw [s.stageOpenRequest_eq]; exact s.setStage_keepsBooks _
  case stagePut => rw [s.stagePutRequest_eq]; exact s.setStage_keepsBooks _
  case stageSeal => rw [s.stageSealRequest_eq]; exact s.setStage_keepsBooks _
  case stageDiscard => rw [s.stageDiscardRequest_eq]; exact s.setStage_keepsBooks _
theorem State.setFrame_keepsBooks (p : Port) (f : Frame) : s.KeepsBooks (s.setFrame p f) :=
  State.modifyPort_keepsBooks id id
theorem State.answered_keepsBooks (p : Port) (bytes : List Byte) : s.KeepsBooks (s.answered p bytes) :=
  State.modifyPort_keepsBooks id id
/-- RST becomes active: frames alone are lost. -/
theorem State.dropFrames_keepsBooks :
    s.KeepsBooks { s with ports := rewriteAll (fun _ x => x.dropFrame) s.ports, rst := true } := by
  refine ⟨id, fun q => ?_, fun q => ?_⟩ <;> rw [State.port, State.port, rewriteAll_get] <;> exact id
/-- A reset zeroes the tally and empties queues and buffers (R147, R179, R182). -/
theorem State.afterReset_keepsBooks (straps : BitVec 5) (sense : BitVec 48) (fs : BitVec 4) (n : Nat) (q : List Instr)
    (cs : List (Port × Bool)) : s.KeepsBooks (.afterReset straps sense fs n q cs) := by
  refine ⟨fun _ => State.tallyOk_of_zero (State.afterReset_scores _ _ _ _ _ _), fun p _ => ?_, fun p _ => ?_⟩ <;>
    rw [State.afterReset_port]
  · exact queueOk_nil
  · exact List.Pairwise.nil

end

/-- Every command keeps the books. -/
theorem exec_keepsBooks {c : Instr} {s t : State} (h : exec c s = .next t) : s.KeepsBooks t := by
  rcases exec_cases h with k | ⟨straps, sense, fs, -, k⟩ | ⟨sense, fs, -, k⟩ | ⟨due, act, hc, -, k⟩ |
    ⟨p, code, body, bytes, hc, k⟩ | ⟨p, bytes, k⟩ | ⟨p, f, k⟩ | k <;> rw [k]
  · exact .refl s
  · exact s.afterReset_keepsBooks _ _ _ _ _ _
  · exact s.settled_keepsBooks.trans (State.count_keepsBooks _ sense fs)
  · exact s.event_keepsBooks hc
  · exact ((s.examined_keepsBooks p).trans (State.request_keepsBooks _ hc)).trans (State.answered_keepsBooks _ p bytes)
  · exact (s.examined_keepsBooks p).trans (State.answered_keepsBooks _ p bytes)
  · exact s.setFrame_keepsBooks p f
  · exact s.dropFrames_keepsBooks
/-- Every step keeps the books. -/
theorem step_keepsBooks {s t : State} (h : step s = .next t) : s.KeepsBooks t :=
  step_keeps (P := s.KeepsBooks) (fun _ _ k => k.trans (State.keepsBooks_of_same rfl ⟨rfl, rfl⟩))
    (fun _ _ k => k.trans (State.keepsBooks_of_same rfl ⟨rfl, rfl⟩))
    (fun p f _ k => k.trans (State.setFrame_keepsBooks _ p f)) (fun _ _ _ k he => k.trans (exec_keepsBooks he))
    (.refl s) h

/-- Settles O54: every step keeps the law of the tally with those of queues and buffers. -/
theorem stepKeepsTallyWithinLimits : Obligations.StepKeepsTallyWithinLimits := fun _ _ h hs =>
  (step_keepsBooks hs).tally h

/-- Settles O55: every step keeps the law of each queue and each buffer. -/
theorem stepKeepsQueuesAndBuffers : Obligations.StepKeepsQueuesAndBuffers := fun _ _ h hs p =>
  ⟨(step_keepsBooks hs).queues p (h p).1, (step_keepsBooks hs).snapshots p (h p).2⟩

end Sys2Proof.Machine

namespace Sys2Proof.Machine

/-! # One step (R162) -/

/-- Settles O1: by what stands at the front of the two queues. -/
theorem stepRunsFrontCommand : Obligations.StepRunsFrontCommand := by
  refine ⟨fun c rest s => rfl, fun s p high rest hp hc => ?_, fun s hp hc => ?_⟩
  · rw [step, hp, hc]
  · rw [step, hp, hc]

end Sys2Proof.Machine

namespace Sys2Proof.Machine

/-! # Notices read and masks stored (R173, R178, R180, Tables 9-8 and 9-9) -/

theorem subscriptionOf_code (n : Byte) : byte (subscriptionOf n).code = n &&& 0x07 := by
  revert n
  decide
/-- An index field that reads 0xFF where it is absent (R171). -/
theorem orAbsent_eq_getD {α : Type} (code : α → Byte) (v : Option α) : orAbsent code v = (v.map code).getD 0xFF := by
  cases v <;> rfl

/-- READ NOTICE with a count in range removes and returns the oldest entries (R180). -/
theorem State.takeNotices_inRange (p : Port) {n : Byte} (s : State) (h1 : 1 ≤ n.toNat) (h16 : n.toNat ≤ 16) :
    s.takeNotices p n = (s.setPort p { s.port p with queue := (s.port p).queue.drop n.toNat },
      accept (byte ((s.port p).queue.take n.toNat).length :: ((s.port p).queue.take n.toNat).flatMap Notice.bytes)) :=
  if_pos (by simp [h1, h16])
theorem State.takeNotices_outOfRange (p : Port) {n : Byte} (s : State) (h : n.toNat = 0 ∨ 17 ≤ n.toNat) :
    s.takeNotices p n = (s, refuse .badArg) := by
  refine if_neg ?_
  rw [Bool.and_eq_true, decide_eq_true_iff, decide_eq_true_iff]
  omega

theorem State.attention_iff (s : State) (p : Port) : s.attention p = true ↔ (s.port p).queue ≠ [] := by
  simp [State.attention]

/-- Settles O32: the codes by evaluation, the answers by the count of READ NOTICE. -/
theorem noticesAreReadAndMaskStored : Obligations.NoticesAreReadAndMaskStored := by
  refine ⟨fun p n s hh => ?_, by decide, by decide, by decide, fun _ => rfl, State.attention_iff⟩
  intro u q mask entry
  refine ⟨?_, fun h1 h16 => ?_, fun h => ?_⟩
  · rw [exec_open (c := .subscribe p n) rfl rfl hh rfl, subscriptionOf_code]
    rfl
  · have entries : Notice.bytes = entry := funext fun x => by
      simp only [Notice.bytes, orAbsent_eq_getD, Nat.mul_comm _ 16, entry]
      rfl
    rw [exec_open (c := .readNotice p n) rfl rfl hh (State.takeNotices_inRange p u h1 h16),
      padded_full (Nat.le_add_left 1 _), entries, List.length_take]
    rfl
  · rw [exec_open (c := .readNotice p n) rfl rfl hh (State.takeNotices_outOfRange p u h)]
    rfl

end Sys2Proof.Machine

namespace Sys2Proof.Machine

/-! # Snapshots latched and read (R174, R182, R184, Table 9-10) -/

section
variable (p : Port) {s : State} {mask : BitVec 24}

theorem State.latchSnapshot_none : s.latchSnapshot p 0 = (s, refuse .badArg) := rfl
theorem State.latchSnapshot_unread (hm : mask ≠ 0) (hb : (s.port p).snapshot ≠ []) :
    s.latchSnapshot p mask = (s, refuse .pending) := by
  rw [State.latchSnapshot, if_neg hm, if_pos (by simpa using hb)]
theorem State.latchSnapshot_latched (hm : mask ≠ 0) (hb : (s.port p).snapshot = []) :
    s.latchSnapshot p mask =
      (s.setPort p { s.port p with snapshot := (namedElements mask).map s.latch },
        accept [byte (namedElements mask).length]) := by
  rw [State.latchSnapshot, if_neg hm, if_neg (by simp [hb])]
  dsimp only
  rw [List.length_map]
  rfl

end

/-- Settles O33: the codes by evaluation, the answers by mask and buffer, the entries by whether they are VOID. -/
theorem snapshotsAreLatchedAndRead : Obligations.SnapshotsAreLatchedAndRead := by
  refine ⟨fun p s => ?_, by decide, fun _ => rfl, by decide, by decide⟩
  intro u latched entry
  refine ⟨fun mask hh => ?_, fun hh => ?_⟩
  · intro named
    refine ⟨fun hm => ?_, fun hm hb => ?_, fun hm hb => ?_⟩
    · rw [hm, exec_open (c := .snapshot p 0) rfl rfl hh (State.latchSnapshot_none p)]
      rfl
    · rw [exec_open (c := .snapshot p mask) rfl rfl hh (State.latchSnapshot_unread p hm hb)]
      rfl
    · rw [exec_open (c := .snapshot p mask) rfl rfl hh (State.latchSnapshot_latched p hm hb)]
      rfl
  · have entries : SnapEntry.bytes = entry := funext fun y => by
      rcases y with ⟨e, _ | d⟩
      · rfl
      · simp only [SnapEntry.bytes, orAbsent_eq_getD, entry]
        rfl
    rw [exec_open (c := .readSnapshot p) rfl rfl hh rfl, padded_full (Nat.le_add_left 1 _), entries]
    rfl

end Sys2Proof.Machine

namespace Sys2Proof.Machine

/-! # Every request is answered (R162 to R166, R169, R172) -/

/-- An answer that the owner of a request may give on a state: never ROLE, with the state as it was where it refuses,
and with no more bytes than the request's row has. -/
structure State.Answers (u : State) (n : Nat) (r : State × Answer) : Prop where
  notRole : r.2.status ≠ .role
  refusal : r.2.status.code.getLsbD 7 = true → r.1 = u
  fits : r.2.bytes.length ≤ n

section
variable {u t : State} {n : Nat}

theorem State.answers_refuse {a : Status} (h : a ≠ .role) : u.Answers n (u, refuse a) :=
  ⟨h, fun _ => rfl, Nat.zero_le n⟩
theorem State.answers_same {a : Status} {bytes : List Byte} (h : a ≠ .role) (hn : bytes.length ≤ n) :
    u.Answers n (u, ⟨a, bytes⟩) := ⟨h, fun _ => rfl, hn⟩
/-- A status with bit 7 clear is no refusal (Table 9-5). -/
theorem State.answers_taken {a : Status} {bytes : List Byte} (h : a.code.getLsbD 7 = false) (hn : bytes.length ≤ n) :
    u.Answers n (t, ⟨a, bytes⟩) :=
  ⟨fun k => absurd (k ▸ h : Status.role.code.getLsbD 7 = false) (by decide), fun k => absurd (h.symm.trans k) nofun, hn⟩
theorem State.answers_accept {bytes : List Byte} (hn : bytes.length ≤ n) : u.Answers n (t, accept bytes) :=
  State.answers_taken rfl hn

end

/-! ## The reads -/

section
variable (s : State)

theorem State.robotAnswer_answers (b : Byte) : s.Answers 11 (s, s.robotAnswer b) := by
  unfold State.robotAnswer
  split
  · exact State.answers_refuse nofun
  · exact State.answers_accept (Nat.le_refl 11)
theorem State.elementAnswer_answers (b : Byte) : s.Answers 19 (s, s.elementAnswer b) := by
  unfold State.elementAnswer
  split
  · exact State.answers_refuse nofun
  · exact State.answers_accept (by simp [bytes2, State.dispenserFields_length])
theorem State.scoresAnswer_answers : s.Answers 29 (s, s.scoresAnswer) :=
  State.answers_accept (by rw [List.length_cons, scores_length])
theorem State.latchSnapshot_answers (p : Port) (mask : BitVec 24) : s.Answers 1 (s.latchSnapshot p mask) := by
  unfold State.latchSnapshot
  split
  · exact State.answers_refuse nofun
  split
  · exact State.answers_refuse nofun
  · exact State.answers_accept (Nat.le_refl 1)

/-! ## The bridge's requests -/

theorem State.placeClaim_answers (r : Robot) (e : Elem) : s.Answers 3 (s.placeClaim r e) := by
  unfold State.placeClaim State.grantClaim State.queueClaim
  dsimp only
  repeat' split
  all_goals first
    | exact State.answers_taken rfl (Nat.le_refl 3)
    | exact State.answers_refuse nofun
theorem State.claimRequest_answers (p : Port) (rb eb : Byte) : s.Answers 3 (s.claimRequest p rb eb) := by
  unfold State.claimRequest
  split
  · repeat (split; exact State.answers_refuse nofun)
    exact s.placeClaim_answers _ _
  · exact State.answers_refuse nofun
theorem State.releaseRequest_answers (p : Port) (rb eb : Byte) : s.Answers 0 (s.releaseRequest p rb eb) := by
  unfold State.releaseRequest
  repeat' split
  all_goals first
    | exact State.answers_accept (Nat.le_refl 0)
    | exact State.answers_refuse nofun
theorem State.withdrawRequest_answers (p : Port) (rb : Byte) : s.Answers 2 (s.withdrawRequest p rb) := by
  unfold State.withdrawRequest
  repeat' split
  all_goals first
    | exact State.answers_accept (Nat.le_refl 2)
    | exact State.answers_refuse nofun
theorem State.moveGate_answers (e : Elem) (d : Direction) : s.Answers 1 (s.moveGate e d) := by
  unfold State.moveGate
  split
  all_goals first
    | exact State.answers_accept (Nat.le_refl 1)
    | exact State.answers_refuse nofun
theorem State.moveRequest_answers (p : Port) (rb eb db : Byte) : s.Answers 1 (s.moveRequest p rb eb db) := by
  unfold State.moveRequest
  repeat' split
  all_goals first
    | exact State.answers_refuse nofun
    | exact s.moveGate_answers _ _
theorem State.dispenseRequest_answers (p : Port) (rb eb : Byte) : s.Answers 2 (s.dispenseRequest p rb eb) := by
  unfold State.dispenseRequest
  dsimp only
  repeat' split
  all_goals first
    | exact State.answers_accept (Nat.le_refl 2)
    | exact State.answers_refuse nofun

/-! ## The plan and the stage -/

theorem State.timingRequest_answers (a : TimingArgs) : s.Answers 13 (s.timingRequest a) := by
  unfold State.timingRequest
  split
  · exact State.answers_accept (Nat.le_refl 13)
  · exact State.answers_refuse nofun
theorem State.elementRequest_answers (eb : Byte) (a : HeaderArgs) : s.Answers 10 (s.elementRequest eb a) := by
  unfold State.elementRequest
  dsimp only
  repeat' split
  all_goals first
    | exact State.answers_accept (Nat.le_refl 10)
    | exact State.answers_refuse nofun
theorem State.profileRequest_answers (eb ph : Byte) (a : ProfileArgs) : s.Answers 14 (s.profileRequest eb ph a) := by
  unfold State.profileRequest
  repeat' split
  all_goals first
    | exact State.answers_accept (Nat.le_refl 14)
    | exact State.answers_refuse nofun
theorem State.bindRequest_answers (rb qb ab : Byte) : s.Answers 0 (s.bindRequest rb qb ab) := by
  unfold State.bindRequest
  repeat' split
  all_goals first
    | exact State.answers_accept (Nat.le_refl 0)
    | exact State.answers_refuse nofun
theorem State.unbindRequest_answers (rb : Byte) : s.Answers 0 (s.unbindRequest rb) := by
  unfold State.unbindRequest
  repeat' split
  all_goals first
    | exact State.answers_taken rfl (Nat.le_refl 0)
    | exact State.answers_refuse nofun
theorem State.testRequest_answers (eb lb : Byte) (w : Half) : s.Answers 2 (s.testRequest eb lb w) := by
  unfold State.testRequest
  dsimp only
  repeat' split
  all_goals first
    | exact State.answers_accept (Nat.le_refl 2)
    | exact State.answers_refuse nofun
theorem State.stageOpenRequest_answers : s.Answers 0 s.stageOpenRequest := by
  unfold State.stageOpenRequest
  repeat' split
  all_goals first
    | exact State.answers_accept (Nat.le_refl 0)
    | exact State.answers_refuse nofun
theorem State.stagePutRequest_answers (eb : Byte) (a : ProfileArgs) : s.Answers 1 (s.stagePutRequest eb a) := by
  unfold State.stagePutRequest
  repeat' split
  all_goals first
    | exact State.answers_accept (Nat.le_refl 1)
    | exact State.answers_refuse nofun
theorem State.stageSealRequest_answers : s.Answers 1 s.stageSealRequest := by
  unfold State.stageSealRequest
  repeat' split
  all_goals first
    | exact State.answers_accept (Nat.le_refl 1)
    | exact State.answers_refuse nofun
theorem State.stageDiscardRequest_answers : s.Answers 1 s.stageDiscardRequest := by
  unfold State.stageDiscardRequest
  split
  · exact State.answers_refuse nofun
  all_goals exact State.answers_accept (Nat.le_refl 1)

/-! ## The match -/

theorem State.armRequest_answers : s.Answers 1 s.armRequest := by
  unfold State.armRequest
  split
  · exact State.answers_refuse nofun
  split
  · exact State.answers_same nofun (Nat.le_refl 1)
  split
  · exact State.answers_refuse nofun
  · exact State.answers_accept (Nat.le_refl 1)
theorem State.disarmRequest_answers : s.Answers 0 s.disarmRequest := by
  unfold State.disarmRequest
  split
  · exact State.answers_refuse nofun
  · exact State.answers_accept (Nat.le_refl 0)
theorem State.startRequest_answers : s.Answers 0 s.startRequest := by
  unfold State.startRequest
  repeat' split
  all_goals first
    | exact State.answers_accept (Nat.le_refl 0)
    | exact State.answers_refuse nofun
theorem State.haltRequest_answers : s.Answers 0 s.haltRequest := by
  unfold State.haltRequest
  repeat' split
  all_goals first
    | exact State.answers_taken rfl (Nat.le_refl 0)
    | exact State.answers_refuse nofun
theorem State.resumeRequest_answers : s.Answers 0 s.resumeRequest := by
  unfold State.resumeRequest
  split
  · exact State.answers_accept (Nat.le_refl 0)
  · exact State.answers_refuse nofun
theorem State.abortRequest_answers : s.Answers 0 s.abortRequest := by
  unfold State.abortRequest
  split
  · exact State.answers_accept (Nat.le_refl 0)
  · exact State.answers_refuse nofun
theorem State.finaliseRequest_answers : s.Answers 0 s.finaliseRequest := by
  unfold State.finaliseRequest
  split
  · exact State.answers_accept (Nat.le_refl 0)
  · exact State.answers_refuse nofun
theorem State.newMatchRequest_answers : s.Answers 0 s.newMatchRequest := by
  unfold State.newMatchRequest
  split
  · exact State.answers_accept (Nat.le_refl 0)
  · exact State.answers_refuse nofun

/-! ## The referee on robots, scores and elements -/

theorem State.penaltyRequest_answers (rb pts bench : Byte) : s.Answers 3 (s.penaltyRequest rb pts bench) := by
  unfold State.penaltyRequest
  dsimp only
  repeat' split
  all_goals first
    | exact State.answers_accept (Nat.le_refl 3)
    | exact State.answers_refuse nofun
theorem State.adjustRequest_answers (ab : Byte) (d : Half) : s.Answers 6 (s.adjustRequest ab d) := by
  unfold State.adjustRequest
  repeat' split
  all_goals first
    | exact State.answers_accept (Nat.le_refl 6)
    | exact State.answers_refuse nofun
theorem State.freeRequest_answers (eb : Byte) : s.Answers 0 (s.freeRequest eb) := by
  unfold State.freeRequest
  repeat' split
  all_goals first
    | exact State.answers_taken rfl (Nat.le_refl 0)
    | exact State.answers_refuse nofun
theorem State.rearmRequest_answers (eb : Byte) : s.Answers 1 (s.rearmRequest eb) := by
  unfold State.rearmRequest
  repeat' split
  all_goals first
    | exact State.answers_accept (Nat.le_refl 1)
    | exact State.answers_refuse nofun
theorem State.tuneRequest_answers (eb : Byte) (v : Half) : s.Answers 2 (s.tuneRequest eb v) := by
  unfold State.tuneRequest
  dsimp only
  repeat' split
  all_goals first
    | exact State.answers_accept (Nat.le_refl 2)
    | exact State.answers_refuse nofun

end

/-- The answer of every request whose row gives its length (Table 9-7). -/
theorem request_answers {c : Instr} {p : Port} {code : Byte} {body : State → State × Answer} {row : RequestRow}
    (hq : requestOf c = some (p, code, body)) (hrow : requestRow code = some row) (h6 : code ≠ 0x06) (h9 : code ≠ 0x09)
    (u : State) : u.Answers row.answer (body u) := by
  cases c <;> cases hq
  case readNotice => exact absurd rfl h6
  case readSnapshot => exact absurd rfl h9
  all_goals cases hrow
  case ping => exact State.answers_accept (Nat.le_refl 4)
  case readClock => exact State.answers_accept (Nat.le_refl 6)
  case readScores => exact u.scoresAnswer_answers
  case readRobot => exact u.robotAnswer_answers _
  case readElement => exact u.elementAnswer_answers _
  case subscribe => exact State.answers_accept (Nat.le_refl 1)
  case snapshot => exact u.latchSnapshot_answers _ _
  case claim => exact u.claimRequest_answers _ _ _
  case release => exact u.releaseRequest_answers _ _ _
  case withdraw => exact u.withdrawRequest_answers _ _
  case move => exact u.moveRequest_answers _ _ _ _
  case dispense => exact u.dispenseRequest_answers _ _ _
  case setTiming => exact u.timingRequest_answers _
  case setElement => exact u.elementRequest_answers _ _
  case setProfile => exact u.profileRequest_answers _ _ _
  case bind => exact u.bindRequest_answers _ _ _
  case unbind => exact u.unbindRequest_answers _
  case lineTest => exact u.testRequest_answers _ _ _
  case arm => exact u.armRequest_answers
  case disarm => exact u.disarmRequest_answers
  case start => exact u.startRequest_answers
  case halt => exact u.haltRequest_answers
  case resume => exact u.resumeRequest_answers
  case abort => exact u.abortRequest_answers
  case finalise => exact u.finaliseRequest_answers
  case newMatch => exact u.newMatchRequest_answers
  case penalty => exact u.penaltyRequest_answers _ _ _
  case adjust => exact u.adjustRequest_answers _ _
  case free => exact u.freeRequest_answers _
  case rearm => exact u.rearmRequest_answers _
  case tune => exact u.tuneRequest_answers _ _
  case stageOpen => exact u.stageOpenRequest_answers
  case stagePut => exact u.stagePutRequest_answers _ _
  case stageSeal => exact u.stageSealRequest_answers
  case stageDiscard => exact u.stageDiscardRequest_answers

end Sys2Proof.Machine

namespace Sys2Proof.Machine

/-! # The frame of a request and its answer (R162 to R166, R169, R172) -/

/-- The commands that a frame spells: a request, or a frame without one. -/
theorem command_of_encodeFrame {c : Instr} {p : Port} {code : Byte} {args : List Byte}
    (h : encodeFrame c = some (p, code :: args)) :
    (∃ body, requestOf c = some (p, code, body)) ∨ c = .unknownAnswer p code ∨ c = .roleAnswer p code := by
  cases c <;> cases h
  case unknownAnswer => exact .inr (.inl rfl)
  case roleAnswer => exact .inr (.inr rfl)
  all_goals exact .inl ⟨_, rfl⟩

section
variable {c : Instr} {p : Port} {code : Byte} {args : List Byte} {s : State} {row : RequestRow}

/-- A frame on a port that takes none in changes nothing. -/
theorem exec_unheard (hf : encodeFrame c = some (p, code :: args)) (hh : ¬ s.Hears p) : exec c s = .next s := by
  have silent : ∀ (n : Nat) (a : Status), s.codeAnswered p n a = s := fun n a =>
    if_pos (by simpa [or_iff_not_imp_left] using hh)
  rcases command_of_encodeFrame hf with ⟨body, hq⟩ | rfl | rfl
  · obtain ⟨row, hrow⟩ := requestRow_of_requestOf hq
    rw [exec_of_requestOf hq, State.request_unheard hrow hh]
  · cases hrow : requestRow code <;> simp [exec, execUnknownAnswer, hrow, silent]
  · cases hrow : requestRow code <;> simp [exec, execRoleAnswer, hrow, silent]

/-- A frame of Table 9-7 on a port to whose role it is not open is answered ROLE (R163). -/
theorem exec_refusedByRole (hf : encodeFrame c = some (p, code :: args)) (hrow : requestRow code = some row)
    (hc : c.wellFormed = true) (hh : s.Hears p) (ho : row.openTo (s.role p) = false) :
    exec c s = .next ((s.examined p).answered p (0x81 :: List.replicate row.answer 0x00)) := by
  rcases command_of_encodeFrame hf with ⟨body, hq⟩ | rfl | rfl
  · rw [exec_of_requestOf hq, State.request_role hrow hh (by rw [State.examined_role]; exact ho)]
    rfl
  · rw [Instr.wellFormed, hrow] at hc
    exact absurd hc nofun
  · exact exec_roleAnswer_heard hh hrow ho

end

/-! ## The two requests whose answers name their length -/

theorem takeNotices_of_requestOf {c : Instr} {p : Port} {body : State → State × Answer}
    (h : requestOf c = some (p, 0x06, body)) : ∃ count, body = State.takeNotices p count := by
  cases c <;> cases h
  exact ⟨_, rfl⟩
theorem takeSnapshot_of_requestOf {c : Instr} {p : Port} {body : State → State × Answer}
    (h : requestOf c = some (p, 0x09, body)) : body = State.takeSnapshot p := by
  cases c <;> cases h
  rfl

/-- Entries of one length make up that length each. -/
theorem flatMap_length_of_const {α β : Type} {f : α → List β} {k : Nat} (h : ∀ x, (f x).length = k) (xs : List α) :
    (xs.flatMap f).length = k * xs.length := by
  simp [List.length_flatMap, h, Nat.mul_comm]
theorem Notice.bytes_length (n : Notice) : n.bytes.length = 8 := rfl
theorem SnapEntry.bytes_length (x : SnapEntry) : x.bytes.length = 12 := by
  rcases x with ⟨e, _ | d⟩ <;> rfl

section
variable (p : Port) (u : State)

theorem State.takeNotices_cases (count : Byte) : (1 ≤ count.toNat ∧ count.toNat ≤ 16 ∧ u.takeNotices p count =
      (u.setPort p { u.port p with queue := (u.port p).queue.drop count.toNat },
        accept (byte ((u.port p).queue.take count.toNat).length ::
          ((u.port p).queue.take count.toNat).flatMap Notice.bytes))) ∨
    u.takeNotices p count = (u, refuse .badArg) := by
  by_cases h : 1 ≤ count.toNat ∧ count.toNat ≤ 16
  · exact .inl ⟨h.1, h.2, u.takeNotices_inRange p h.1 h.2⟩
  · exact .inr (u.takeNotices_outOfRange p (by omega))
theorem State.takeNotices_answers (count : Byte) :
    u.Answers (u.takeNotices p count).2.bytes.length (u.takeNotices p count) := by
  rcases u.takeNotices_cases p count with ⟨-, -, h⟩ | h <;> rw [h]
  · exact State.answers_accept (Nat.le_refl _)
  · exact State.answers_refuse nofun
/-- READ NOTICE answers the number of its entries, then eight bytes for each (R173, R180). -/
theorem State.takeNotices_length (count : Byte) :
    ∃ n, (padded 1 (u.takeNotices p count).2.bytes).head? = some (byte n) ∧ n ≤ 16 ∧
      (padded 1 (u.takeNotices p count).2.bytes).length = 1 + 8 * n := by
  rcases u.takeNotices_cases p count with ⟨-, h16, h⟩ | h <;> rw [h]
  · refine ⟨((u.port p).queue.take count.toNat).length, rfl, (List.length_take_le _ _).trans h16, ?_⟩
    dsimp only [accept]
    rw [padded_full (Nat.le_add_left 1 _), List.length_cons, flatMap_length_of_const Notice.bytes_length, Nat.add_comm]
  · exact ⟨0, rfl, Nat.zero_le 16, rfl⟩
/-- READ SNAPSHOT answers the number of its entries, then twelve bytes for each (R174, R184). -/
theorem State.takeSnapshot_length :
    ∃ n, (padded 1 (u.takeSnapshot p).2.bytes).head? = some (byte n) ∧
      (padded 1 (u.takeSnapshot p).2.bytes).length = 1 + 12 * n := by
  refine ⟨(u.port p).snapshot.length, rfl, ?_⟩
  dsimp only [State.takeSnapshot, accept]
  rw [padded_full (Nat.le_add_left 1 _), List.length_cons,
    flatMap_length_of_const SnapEntry.bytes_length, Nat.add_comm]

end

/-- The answer of every request, where its length is left aside. -/
theorem request_answers_some {c : Instr} {p : Port} {code : Byte} {body : State → State × Answer}
    (hq : requestOf c = some (p, code, body)) (u : State) : ∃ n, u.Answers n (body u) := by
  obtain ⟨row, hrow⟩ := requestRow_of_requestOf hq
  by_cases h6 : code = 0x06
  · subst h6
    obtain ⟨count, rfl⟩ := takeNotices_of_requestOf hq
    exact ⟨_, u.takeNotices_answers p count⟩
  by_cases h9 : code = 0x09
  · subst h9
    rw [takeSnapshot_of_requestOf hq]
    exact ⟨_, State.answers_accept (Nat.le_refl _)⟩
  · exact ⟨_, request_answers hq hrow h6 h9 u⟩

/-- Only ROLE has the status byte 0x81 (Table 9-5). -/
theorem Status.code_eq_role {a : Status} (h : a.code = 0x81) : a = .role := by
  revert h
  cases a <;> decide

/-- Settles O51: a role it is not open to refuses a frame whole; any other is a request, whose owner's answer is filled to
its row. -/
theorem everyRequestIsAnsweredOnceHeard : Obligations.EveryRequestIsAnsweredOnceHeard := by
  refine fun c p code args s hf => ⟨exec_unheard hf, fun row hrow hc hh => ?_⟩
  intro refused onlyRefused
  have frame : ∀ (t : State) (b : Byte) (bytes : List Byte),
      ((t.answered p (b :: bytes)).port p).frame = ⟨.answer, [], [], b :: bytes, 0⟩ := fun t b bytes => by
    rw [State.answered_port_self]
    rfl
  by_cases ho : refused
  · have toAll : ∀ {n k : Nat}, requestRow code ≠ some (rowAll n k) := fun h => by
      cases hrow.symm.trans h
      exact absurd ((rowAll_openTo _ _ _).symm.trans ho) nofun
    refine ⟨_, 0x81, _, exec_refusedByRole hf hrow hc hh ho, frame _ _ _, fun _ => rfl, fun _ => ⟨rfl, rfl⟩, absurd ho,
      fun _ _ => List.length_replicate, fun h => ?_, fun h => ?_⟩ <;> subst h
    exacts [absurd rfl (toAll (n := 1) (k := 1)), absurd rfl (toAll (n := 0) (k := 1))]
  · obtain ⟨body, hq⟩ : ∃ body, requestOf c = some (p, code, body) := by
      rcases command_of_encodeFrame hf with h | rfl | rfl
      · exact h
      · rw [Instr.wellFormed, hrow] at hc
        exact absurd hc nofun
      · exact absurd (onlyRefused rfl) ho
    obtain ⟨n, hn⟩ := request_answers_some hq (s.examined p)
    refine ⟨_, _, _, exec_request_open hq hrow hh (Bool.eq_true_of_not_eq_false ho) rfl, frame _ _ _, fun h => ?_,
      fun h => absurd h ho, fun _ h => hn.notRole (Status.code_eq_role h), fun h6 h9 => ?_, fun h => ?_, fun h => ?_⟩
    · rw [hn.refusal h]
    · rw [padded_length, Nat.max_eq_left (request_answers hq hrow h6 h9 _).fits]
    · subst h
      cases hrow
      obtain ⟨count, rfl⟩ := takeNotices_of_requestOf hq
      exact State.takeNotices_length p _ count
    · subst h
      cases hrow
      rw [takeSnapshot_of_requestOf hq]
      exact State.takeSnapshot_length p _

end Sys2Proof.Machine

namespace Sys2Proof.Machine

/-! # The frame of a request decodes to it (R163 to R165, R171, Table 9-7) -/

theorem joinHalf_extract (h : Half) : joinHalf (h.extractLsb' 8 8) (h.extractLsb' 0 8) = h :=
  (BitVec.extractLsb'_append_extractLsb'_eq_extractLsb' (start₂ := 8) rfl).trans BitVec.extractLsb'_eq_self
theorem joinMask_extract (m : BitVec 24) :
    m.extractLsb' 16 8 ++ m.extractLsb' 8 8 ++ m.extractLsb' 0 8 = m := by
  have upper : m.extractLsb' 16 8 ++ m.extractLsb' 8 8 = m.extractLsb' 8 16 :=
    BitVec.extractLsb'_append_extractLsb'_eq_extractLsb' rfl
  rw [upper]
  exact (BitVec.extractLsb'_append_extractLsb'_eq_extractLsb' (start₂ := 8) rfl).trans BitVec.extractLsb'_eq_self
theorem profileArgs_profileBytes (a : ProfileArgs) (more : List Byte) :
    profileArgs (profileBytes a ++ more) = some a := by
  change some (ProfileArgs.mk _ _ _ (joinHalf _ _) _ _ (joinHalf _ _) (joinHalf _ _) _) = _
  rw [joinHalf_extract, joinHalf_extract, joinHalf_extract]

/-- What a frame spells: a code outside Table 9-7, a code alone, or a code with the argument bytes of its row, from
which the request is read whatever follows. -/
inductive Spells (c : Instr) (p : Port) : List Byte → Prop where
  | unknown (code : Byte) (hrow : requestRow code = none) (hc : c = .unknownAnswer p code) : Spells c p [code]
  | role (code : Byte) (row : RequestRow) (hrow : requestRow code = some row) (hc : c = .roleAnswer p code) :
    Spells c p [code]
  | request (code : Byte) (args : List Byte) (row : RequestRow) (hrow : requestRow code = some row)
    (hc : c ≠ .roleAnswer p code) (hargs : args.length = row.args)
    (read : ∀ more, Sys2Proof.requestOf p code (args ++ more) = some c) : Spells c p (code :: args)

theorem spells_of_encodeFrame {c : Instr} {p : Port} {frame : List Byte} (hw : c.wellFormed = true)
    (h : encodeFrame c = some (p, frame)) : Spells c p frame := by
  cases c <;> cases h
  case unknownAnswer code => exact .unknown code (Option.isNone_iff_eq_none.mp hw) rfl
  case roleAnswer code =>
    cases hrow : requestRow code with
    | none => simp [Instr.wellFormed, hrow] at hw
    | some row => exact .role code row hrow rfl
  all_goals refine .request _ _ _ rfl nofun rfl fun more => ?_
  case snapshot m => exact congrArg (fun m => some (Instr.snapshot p m)) (joinMask_extract m)
  case setTiming a =>
    change some (Instr.setTiming p ⟨joinHalf _ _, joinHalf _ _, joinHalf _ _, joinHalf _ _, _, _, _, joinHalf _ _⟩) = _
    simp only [joinHalf_extract]
  case setElement e a =>
    change some (Instr.setElement p e ⟨_, _, _, _, _, joinHalf _ _, joinHalf _ _⟩) = _
    simp only [joinHalf_extract]
  case setProfile e ph a => exact congrArg (Option.map (Instr.setProfile p e ph)) (profileArgs_profileBytes a more)
  case stagePut e a => exact congrArg (Option.map (Instr.stagePut p e)) (profileArgs_profileBytes a more)
  case lineTest e l w => exact congrArg (fun w => some (Instr.lineTest p e l w)) (joinHalf_extract w)
  case adjust a d => exact congrArg (fun d => some (Instr.adjust p a d)) (joinHalf_extract d)
  case tune e v => exact congrArg (fun v => some (Instr.tune p e v)) (joinHalf_extract v)
  all_goals rfl

section
variable {c : Instr} {p : Port} {role : Role} {frame : List Byte}
  (hs : Spells c p frame) (hrole : ∀ code row, frame.head? = some code → requestRow code = some row →
    (row.openTo role = false ↔ c = .roleAnswer p code))
include hs hrole

/-- A whole frame decodes to its command, whatever bytes follow (R165). -/
theorem decodeFrame_whole (more : List Byte) : decodeFrame role p (frame ++ more) = some c := by
  cases hs with
  | unknown code hrow hc => simp [decodeFrame, hrow, hc]
  | role code row hrow hc => simp [decodeFrame, hrow, (hrole code row rfl hrow).mpr hc, hc]
  | request code args row hrow hc hargs read =>
    have toRole : row.openTo role = true := Bool.eq_true_of_not_eq_false (mt (hrole code row rfl hrow).mp hc)
    simp [decodeFrame, hrow, toRole, hargs, read]
/-- A frame short of its last byte spells nothing yet (R164). -/
theorem decodeFrame_short {k : Nat} (hk : k < frame.length) : decodeFrame role p (frame.take k) = none := by
  cases k with
  | zero => rfl
  | succ k =>
    cases hs with
    | unknown | role => exact absurd hk (by simp)
    | request code args row hrow hc hargs read =>
      have toRole : row.openTo role = true := Bool.eq_true_of_not_eq_false (mt (hrole code row rfl hrow).mp hc)
      have short : k < row.args := hargs ▸ Nat.lt_of_succ_lt_succ hk
      simp [decodeFrame, hrow, toRole, short]

end

end Sys2Proof.Machine

namespace Sys2Proof.Machine

/-! # Bits and bytes (R162) -/

/-- The first bits of a word, taken most significant first, are its upper part. -/
theorem foldl_getMsbD {w : Nat} (x : BitVec w) {k : Nat} (hk : k ≤ w) :
    ((List.range k).map x.getMsbD).foldl (fun n b => 2 * n + b.toNat) 0 = x.toNat / 2 ^ (w - k) := by
  induction k with
  | zero => simp [Nat.div_eq_of_lt x.isLt]
  | succ k ih =>
    have bit : (x.getMsbD k).toNat = x.toNat / 2 ^ (w - (k + 1)) % 2 := by
      rw [BitVec.getMsbD_eq_getLsbD, decide_eq_true (by omega), Bool.true_and, ← BitVec.testBit_toNat, Nat.toNat_testBit,
        Nat.sub_sub, Nat.add_comm 1]
    have upper : x.toNat / 2 ^ (w - k) = x.toNat / 2 ^ (w - (k + 1)) / 2 := by
      rw [Nat.div_div_eq_div_mul, ← Nat.pow_succ, show (w - (k + 1)).succ = w - k by omega]
    rw [List.range_succ, List.map_append, List.foldl_append, ih (by omega), List.map_singleton, List.foldl_cons,
      List.foldl_nil, bit, upper, Nat.div_add_mod]
/-- A byte is read back from its bits. -/
theorem byteOfBits_byteBits (b : Byte) : byteOfBits (byteBits b) = b := by
  rw [byteOfBits, byteBits, foldl_getMsbD b (Nat.le_refl 8), Nat.sub_self, Nat.pow_zero, Nat.div_one,
    BitVec.ofNat_toNat, BitVec.setWidth_eq]
theorem byteBits_length (b : Byte) : (byteBits b).length = 8 := rfl
/-- A byte's bits are the first seven and the last one. -/
theorem byteBits_split (b : Byte) : ∃ last, byteBits b = (byteBits b).take 7 ++ [last] := ⟨_, rfl⟩

theorem flatMap_byteBits_length_take {frame : List Byte} {j : Nat} (hj : j ≤ frame.length) :
    ((frame.take j).flatMap byteBits).length = 8 * j := by
  rw [flatMap_length_of_const byteBits_length, List.length_take_of_le hj]
/-- The first bits of a run of bytes: those of the complete bytes, and the first ones of the byte under way. -/
theorem take_flatMap_byteBits {frame : List Byte} {j r : Nat} (hj : j < frame.length) (hr : r ≤ 8) :
    (frame.flatMap byteBits).take (8 * j + r) = (frame.take j).flatMap byteBits ++ (byteBits frame[j]).take r := by
  have cut : frame.flatMap byteBits =
      (frame.take j).flatMap byteBits ++ (byteBits frame[j] ++ (frame.drop (j + 1)).flatMap byteBits) := by
    rw [← List.flatMap_cons, ← List.flatMap_append, ← List.drop_eq_getElem_cons hj, List.take_append_drop]
  rw [cut, ← flatMap_byteBits_length_take hj.le, List.take_length_add_append,
    List.take_append_of_le_length (byteBits_length _ ▸ hr)]

/-! # A frame clocked bit by bit (R162 to R164) -/

/-- A receiver that has taken in some bytes and some bits of the next one: in CODE up to the end of the first byte. -/
def Frame.receiving (bytes : List Byte) (bits : List Bool) : Frame :=
  ⟨if bytes = [] then .code else .arguments, bits, bytes, [], 0⟩

theorem Frame.receiving_nil : Frame.receiving [] [] = .begun := rfl
theorem Frame.receiving_receiver (bytes : List Byte) (bits : List Bool) :
    (Frame.receiving bytes bits).receiver = .code ∨ (Frame.receiving bytes bits).receiver = .arguments := by
  by_cases h : bytes = [] <;> simp [Frame.receiving, h]

theorem State.clockAll_append {p : Port} {xs ys : List Bool} {s t : State} (h : s.clockAll p xs = .next t) :
    s.clockAll p (xs ++ ys) = t.clockAll p ys := by
  induction xs generalizing s with
  | nil => cases h; rfl
  | cons x xs ih =>
    rw [List.cons_append, State.clockAll]
    rw [State.clockAll] at h
    split at h
    · exact ih h
    · rename_i stop hn
      exact absurd h (hn t)

theorem State.clockAll_singleton (p : Port) (b : Bool) (s : State) : s.clockAll p [b] = s.serialClock p b := by
  rw [State.clockAll]
  cases s.serialClock p b <;> rfl

theorem State.setFrame_setFrame (p : Port) (f g : Frame) (s : State) : (s.setFrame p f).setFrame p g = s.setFrame p g := by
  change (s.setFrame p f).setPort p { (s.setFrame p f).port p with frame := g } = _
  rw [State.setFrame_port_self]
  simp [State.setFrame, State.modifyPort, State.setPort]

section
variable {p : Port} {s : State} {bytes : List Byte}

theorem State.setFrame_begun (hh : s.Hears p) : s.setFrame p .begun = s := by
  have listening : (s.port p).frame = .begun := of_decide_eq_true hh.2
  rw [← listening]
  exact s.setPort_port p

variable (hr : s.rst = false)
include hr

/-- A bit short of a whole byte is taken in. -/
theorem State.serialClock_within {bits : List Bool} {b : Bool} (h : bits.length ≤ 6) :
    (s.setFrame p (.receiving bytes bits)).serialClock p b = .next (s.setFrame p (.receiving bytes (bits ++ [b]))) := by
  have frame : ((s.setFrame p (.receiving bytes bits)).port p).frame = .receiving bytes bits := by
    rw [State.setFrame_port_self]
  rw [State.serialClock_bit (s := s.setFrame p _) hr (by rw [frame]; exact Frame.receiving_receiver bytes bits)
    (by rw [frame]; exact h), frame, State.setFrame_setFrame]
  rfl
theorem State.clockAll_bits {new bits : List Bool} (h : bits.length + new.length ≤ 7) :
    (s.setFrame p (.receiving bytes bits)).clockAll p new = .next (s.setFrame p (.receiving bytes (bits ++ new))) := by
  induction new generalizing bits with
  | nil => rw [List.append_nil]; rfl
  | cons b new ih =>
    have room : bits.length + new.length ≤ 6 := Nat.le_of_succ_le_succ h
    rw [State.clockAll, State.serialClock_within hr (le_of_add_le_left room), List.append_cons bits b new]
    exact ih (bits := bits ++ [b]) (by rw [List.length_append, List.length_singleton]; omega)

/-- The eighth bit completes the byte. -/
theorem State.serialClock_last {bits : List Bool} {last : Bool} (h : bits.length = 7) :
    (s.setFrame p (.receiving bytes bits)).serialClock p last =
      (s.setFrame p (.receiving bytes bits)).byteIn p (byteOfBits (bits ++ [last])) := by
  have full : ¬ (bits ++ [last]).length < 8 := by simp [h]
  unfold State.serialClock
  rw [State.setFrame_port_self]
  rcases Frame.receiving_receiver bytes bits with hf | hf <;>
    simp only [hf, State.setFrame_rst, hr, Bool.false_eq_true, if_false] <;> exact if_neg full

/-- A byte clocked in is complete at its last bit. -/
theorem State.clockAll_byte (b : Byte) : (s.setFrame p (.receiving bytes [])).clockAll p (byteBits b) =
    (s.setFrame p (.receiving bytes ((byteBits b).take 7))).byteIn p b := by
  obtain ⟨last, split⟩ := byteBits_split b
  calc (s.setFrame p (.receiving bytes [])).clockAll p (byteBits b)
    _ = (s.setFrame p (.receiving bytes [])).clockAll p ((byteBits b).take 7 ++ [last]) := by rw [← split]
    _ = (s.setFrame p (.receiving bytes ((byteBits b).take 7))).serialClock p last := by
      rw [State.clockAll_append (State.clockAll_bits hr (new := (byteBits b).take 7) (bits := []) (Nat.le_refl 7)),
        State.clockAll_singleton]
      rfl
    _ = (s.setFrame p (.receiving bytes ((byteBits b).take 7))).byteIn p b := by
      rw [State.serialClock_last hr rfl, ← split, byteOfBits_byteBits]

end

section
variable {p : Port} {s : State} {bytes : List Byte} {bits : List Bool} {b : Byte}

/-- A byte at which the frame spells nothing yet is kept (R164). -/
theorem State.byteIn_short (h : decodeFrame (s.role p) p (bytes ++ [b]) = none) :
    (s.setFrame p (.receiving bytes bits)).byteIn p b = .next (s.setFrame p (.receiving (bytes ++ [b]) [])) := by
  unfold State.byteIn
  dsimp only
  rw [State.setFrame_role, State.setFrame_port_self, show (Frame.receiving bytes bits).bytes = bytes from rfl, h]
  dsimp only
  rw [State.setFrame_setFrame, Frame.receiving, if_neg (List.append_ne_nil_of_right_ne_nil _ (List.cons_ne_nil b []))]
/-- The byte at which the frame spells a command is its effect point (R163, R164). -/
theorem State.byteIn_whole {c : Instr} (h : decodeFrame (s.role p) p (bytes ++ [b]) = some c) :
    (s.setFrame p (.receiving bytes bits)).byteIn p b = exec c (s.setFrame p .begun) := by
  unfold State.byteIn
  dsimp only
  rw [State.setFrame_role, State.setFrame_port_self, show (Frame.receiving bytes bits).bytes = bytes from rfl, h]
  dsimp only
  rw [State.setFrame_setFrame]

end

section
variable {p : Port} {s : State} {frame : List Byte} (hh : s.Hears p)
  (short : ∀ k, k < frame.length → decodeFrame (s.role p) p (frame.take k) = none)
include hh short

/-- Bytes clocked in short of the whole frame are kept. -/
theorem State.clockAll_bytes {j : Nat} (hj : j < frame.length) :
    s.clockAll p ((frame.take j).flatMap byteBits) = .next (s.setFrame p (.receiving (frame.take j) [])) := by
  induction j with
  | zero => rw [List.take_zero, Frame.receiving_nil, State.setFrame_begun hh]; rfl
  | succ j ih =>
    have before : j < frame.length := Nat.lt_of_succ_lt hj
    have next : frame.take j ++ [frame[j]] = frame.take (j + 1) := List.take_append_getElem before
    rw [← next, List.flatMap_append, State.clockAll_append (ih before), List.flatMap_singleton,
      State.clockAll_byte hh.1, State.byteIn_short (next ▸ short (j + 1) hj)]
/-- Bits clocked in short of the whole frame are kept, those of complete bytes as bytes (R162). -/
theorem State.clockAll_part {k : Nat} (hk : k < 8 * frame.length) :
    s.clockAll p ((frame.flatMap byteBits).take k) = .next (s.setFrame p
      ⟨if k < 8 then .code else .arguments, ((frame.flatMap byteBits).take k).drop (8 * (k / 8)), frame.take (k / 8),
        [], 0⟩) := by
  have hj : k / 8 < frame.length := Nat.div_lt_of_lt_mul hk
  have under : k % 8 < 8 := Nat.mod_lt k (by decide)
  have bits : (frame.flatMap byteBits).take k =
      (frame.take (k / 8)).flatMap byteBits ++ (byteBits frame[k / 8]).take (k % 8) := by
    rw [← take_flatMap_byteBits hj under.le, Nat.div_add_mod]
  have rest : ((frame.flatMap byteBits).take k).drop (8 * (k / 8)) = (byteBits frame[k / 8]).take (k % 8) := by
    rw [bits, List.drop_left' (flatMap_byteBits_length_take hj.le)]
  have receiver : (frame.take (k / 8) = []) ↔ k < 8 := by
    rw [List.take_eq_nil_iff, or_iff_left (List.ne_nil_of_length_pos (Nat.zero_lt_of_lt hj))]
    omega
  rw [rest, bits, State.clockAll_append (State.clockAll_bytes hh short hj),
    State.clockAll_bits hh.1 (by rw [List.length_take, byteBits_length, List.length_nil]; omega), Frame.receiving]
  simp only [receiver, List.nil_append]
/-- The last bit of the frame does what its command does (R163, R164). -/
theorem State.clockAll_whole {c : Instr} (h0 : 0 < frame.length) (whole : decodeFrame (s.role p) p frame = some c) :
    s.clockAll p (frame.flatMap byteBits) = exec c s := by
  have hj : frame.length - 1 < frame.length := Nat.sub_lt h0 Nat.one_pos
  have last : frame.take (frame.length - 1) ++ [frame[frame.length - 1]] = frame := by
    rw [List.take_append_getElem hj, Nat.sub_add_cancel h0, List.take_length]
  calc s.clockAll p (frame.flatMap byteBits)
    _ = s.clockAll p ((frame.take (frame.length - 1)).flatMap byteBits ++ byteBits frame[frame.length - 1]) := by
      rw [← List.flatMap_singleton byteBits frame[frame.length - 1], ← List.flatMap_append, last]
    _ = exec c s := by
      rw [State.clockAll_append (State.clockAll_bytes hh short hj), State.clockAll_byte hh.1,
        State.byteIn_whole (last.symm ▸ whole), State.setFrame_begun hh]

end

theorem Spells.length_pos {c : Instr} {p : Port} {frame : List Byte} (h : Spells c p frame) : 0 < frame.length := by
  cases h <;> exact Nat.succ_pos _

/-- Settles O53: what the frame spells gives its decoding, and the decoding of its parts what each clock does. -/
theorem framesDecodeToTheirRequest : Obligations.FramesDecodeToTheirRequest := by
  intro c role p frame more hw hf hrole
  have spells := spells_of_encodeFrame hw hf
  have short : ∀ k, k < frame.length → decodeFrame role p (frame.take k) = none := fun _ =>
    decodeFrame_short spells hrole
  refine ⟨decodeFrame_whole spells hrole more, short, fun s hh hr => ?_⟩
  subst hr
  have whole : decodeFrame (s.role p) p frame = some c := by
    simpa only [List.append_nil] using decodeFrame_whole spells hrole []
  exact ⟨State.clockAll_whole hh short spells.length_pos whole, fun k => State.clockAll_part hh short⟩

end Sys2Proof.Machine

namespace Sys2Proof.Machine

/-! # The ports that a record is due to (R177) -/

/-- The kinds that go to the bridge port of the record's robot (R177). -/
def NoticeKind.NamesRobot (k : NoticeKind) : Prop := k = .grant ∨ k = .lost ∨ k = .dropped ∨ k = .robot

section
variable {n : Notice} (s : State) (p : Port)

theorem State.routes_of_namesRobot (h : n.kind.NamesRobot) :
    s.routes n p = true ↔ ∃ r, n.robot = some r ∧ (s.robot r).bound = some p := by
  obtain h | h | h | h := h <;> rw [State.routes, h] <;> cases n.robot <;> simp
theorem State.routes_of_phase (h : n.kind = .phase) : s.routes n p = true := by
  rw [State.routes, h]
theorem State.routes_of_score (h : n.kind = .score) :
    s.routes n p = true ↔ (s.port p).subscription.score = true := by
  rw [State.routes, h]
theorem State.routes_of_element (h : n.kind = .element) :
    s.routes n p = true ↔ p = 0 ∨ (s.port p).subscription.element = true := by
  rw [State.routes, h, Bool.or_eq_true, decide_eq_true_iff]
theorem State.routes_of_stage (h : n.kind = .stage) :
    s.routes n p = true ↔ p = 0 ∨ (s.port p).subscription.stage = true := by
  rw [State.routes, h, Bool.or_eq_true, decide_eq_true_iff]
/-- OVERFLOW is the notice block's own entry and is never routed (R179). -/
theorem State.routes_of_overflow (h : n.kind = .overflow) : s.routes n p = false := by
  rw [State.routes, h]

end

/-- Settles O8: the routing by the kind of the record, the queues by what `hand` does to a port. -/
theorem noticeReachesDuePorts : Obligations.NoticeReachesDuePorts := by
  refine fun n s => ⟨fun p => ?_, State.hand_handed n s, State.hand_samePorts n s, State.hand_eq n s⟩
  cases h : n.kind with
  | grant | lost | dropped | robot =>
    rw [State.routes_of_namesRobot s p (by simp [NoticeKind.NamesRobot, h])]
    simp
  | phase => simp [State.routes_of_phase s p h]
  | score => simp [State.routes_of_score s p h]
  | element => simp [State.routes_of_element s p h]
  | stage => simp [State.routes_of_stage s p h]
  | overflow => simp [State.routes_of_overflow s p h]

end Sys2Proof.Machine

namespace Sys2Proof.Machine

/-! # Pulse units and claim timers in range (R115 to R123, R126, R129 to R131) -/

theorem figureIn_some {lo hi n : Nat} : figureIn lo hi (some n) ↔ lo ≤ n ∧ n ≤ hi := by simp [figureIn]
/-- A present figure lies below its limit, and an absent one reads as 0. -/
theorem figureIn_getD_le {lo hi : Nat} {v : Option Nat} (h : figureIn lo hi v) : v.getD 0 ≤ hi := by
  cases v with
  | none => exact Nat.zero_le _
  | some n => exact (figureIn_some.mp h).2

theorem PulseUnit.stopped_ok : PulseUnit.stopped.Ok := by decide

section
variable {u : PulseUnit} (h : u.Ok)
include h

theorem PulseUnit.Ok.tunedTo_le {m : Mode} {v : Nat} (hv : u.tunedTo m = some v) : v ≤ 65535 := by
  obtain ⟨-, -, tuned, -⟩ := h
  unfold PulseUnit.tunedTo at hv
  split at hv
  · rename_i k m' hp
    rw [hp] at tuned
    split at hv
    · exact Option.some.inj hv ▸ of_decide_eq_true tuned
    · cases hv
  · cases hv
theorem PulseUnit.Ok.tunedTo_getD_le {n : Nat} (hn : n ≤ 65535) (m : Mode) : (u.tunedTo m).getD n ≤ 65535 := by
  cases hv : u.tunedTo m with
  | none => exact hn
  | some v => exact h.tunedTo_le hv
theorem PulseUnit.Ok.keptTune_le (m : Mode) : ((u.keptTune m).all fun v => decide (v.1 ≤ 65535)) = true := by
  unfold PulseUnit.keptTune
  cases hv : u.tunedTo m with
  | none => rfl
  | some v => exact decide_eq_true (h.tunedTo_le hv)

/-! ## The commands of an engine to its unit -/

theorem PulseUnit.Ok.trigger {n : Nat} (hn : n ≤ 65535) : (u.trigger n).Ok :=
  ⟨hn, h.tunedTo_getD_le hn .shot, rfl, nofun, fun _ => ⟨rfl, rfl⟩, nofun, nofun, nofun⟩
theorem PulseUnit.Ok.startRate {n : Nat} (hn : n ≤ 65535) : (u.startRate n).Ok :=
  ⟨hn, hn, h.keptTune_le .rate, nofun, nofun, fun _ => rfl, nofun, nofun⟩
theorem PulseUnit.Ok.startWave {n : Nat} (hn : n ≤ 65535) : (u.startWave n).Ok :=
  ⟨hn, show (n + 1) / 2 ≤ 65535 by omega, h.keptTune_le .wave, nofun, nofun, nofun, fun _ => rfl, nofun⟩
theorem PulseUnit.Ok.hold : u.hold.Ok := by
  unfold PulseUnit.hold
  split
  · rename_i hw
    obtain ⟨period, count, tuned, -⟩ := h
    have wave : u.mode = .wave := of_decide_eq_true (Bool.and_eq_true_iff.mp hw).1
    exact ⟨period, count, tuned, by simp [wave], by simp [wave], by simp [wave], fun _ => rfl, by simp [wave]⟩
  · exact h
theorem PulseUnit.Ok.continueWave : u.continueWave.Ok := by
  unfold PulseUnit.continueWave
  split
  · rename_i hw
    obtain ⟨period, count, tuned, -⟩ := h
    have wave : u.mode = .wave := of_decide_eq_true (Bool.and_eq_true_iff.mp hw).1
    exact ⟨period, count, tuned, by simp [wave], by simp [wave], fun _ => rfl, fun _ => rfl, fun _ => rfl⟩
  · exact h

/-! ## Counting and expiries -/

/-- A tick lowers the count, ends the one-tick output of RATE, and ends a STROBE whose output is active (R117, R120,
R123). -/
theorem PulseUnit.Ok.tick : u.tick.Ok := by
  obtain ⟨period, count, tuned, idle, shot, rate, wave, strobe⟩ := id h
  have lower : u.count - 1 ≤ 65535 := (Nat.sub_le _ _).trans count
  unfold PulseUnit.tick
  split
  · exact h
  · split
    · exact h
    · exact ⟨period, lower, tuned, idle, shot, rate, wave, strobe⟩
    · exact ⟨period, lower, tuned, idle, shot, rate, wave, strobe⟩
    · rename_i hm
      exact ⟨period, lower, tuned, by simp [hm], by simp [hm], rate, by simp [hm], by simp [hm]⟩
    · split
      · exact ⟨period, count, tuned, fun _ => ⟨rfl, rfl⟩, nofun, nofun, nofun, nofun⟩
      · exact ⟨period, lower, tuned, idle, shot, rate, wave, strobe⟩
theorem PulseUnit.Ok.shotEnd : u.shotEnd.Ok := by
  obtain ⟨period, count, tuned, -⟩ := h
  exact ⟨period, count, tuned, fun _ => ⟨rfl, rfl⟩, nofun, nofun, nofun, nofun⟩
theorem PulseUnit.Ok.rateReload (hm : u.mode = .rate) : u.rateReload.Ok := by
  obtain ⟨period, count, tuned, -, -, rate, -⟩ := id h
  unfold PulseUnit.rateReload
  split
  · rename_i v hv
    exact ⟨h.tunedTo_le hv, h.tunedTo_le hv, rfl, by simp [hm], by simp [hm], rate, by simp [hm], by simp [hm]⟩
  · exact ⟨period, period, tuned, by simp [hm], by simp [hm], rate, by simp [hm], by simp [hm]⟩
theorem PulseUnit.Ok.waveChange (hm : u.mode = .wave) : u.waveChange.Ok := by
  obtain ⟨period, count, tuned, -⟩ := id h
  unfold PulseUnit.waveChange
  split
  · exact ⟨period, (Nat.div_le_self _ _).trans period, tuned, by simp [hm], by simp [hm], by simp [hm],
      by simp, by simp [hm]⟩
  · split
    · rename_i v hv
      have le := h.tunedTo_le hv
      exact ⟨le, show (v + 1) / 2 ≤ 65535 by omega, rfl, by simp [hm], by simp [hm], by simp [hm], by simp,
        by simp [hm]⟩
    · exact ⟨period, show (u.period + 1) / 2 ≤ 65535 by omega, tuned, by simp [hm], by simp [hm], by simp [hm],
        by simp, by simp [hm]⟩
theorem PulseUnit.Ok.strobeFire (hm : u.mode = .strobe) : u.strobeFire.Ok := by
  obtain ⟨period, count, tuned, -, -, -, -, strobe⟩ := h
  exact ⟨period, count, tuned, by simp [PulseUnit.strobeFire, hm], by simp [PulseUnit.strobeFire, hm],
    by simp [PulseUnit.strobeFire, hm], by simp [PulseUnit.strobeFire, hm], strobe⟩

end

theorem PulseUnit.testTrigger_ok (u : PulseUnit) {n : Nat} (hn : n ≤ 65535) : (u.testTrigger n).Ok :=
  ⟨hn, hn, rfl, nofun, fun _ => ⟨rfl, rfl⟩, nofun, nofun, nofun⟩
theorem PulseUnit.startStrobe_ok (u : PulseUnit) {n : Nat} (hn : n ≤ 65535) : (u.startStrobe n).Ok :=
  ⟨hn, hn, rfl, nofun, nofun, nofun, nofun, fun _ => rfl⟩

/-- A SHOT stays one at a tick (R117). -/
theorem PulseUnit.tick_shot {u : PulseUnit} (hm : u.mode = .shot) : u.tick.mode = .shot := by
  cases hr : u.run with
  | false => simp [PulseUnit.tick, hr, hm]
  | true => rw [(u.tick_cases hr).2.1 (.inl hm), hm]
/-- A STROBE that has not fired stays one at a tick, and does not fire by it (R117, R123). -/
theorem PulseUnit.tick_strobe {u : PulseUnit} (hm : u.mode = .strobe) (ho : u.output = false) :
    u.tick.mode = .strobe ∧ u.tick.output = false := by
  cases hr : u.run with
  | false => simp [PulseUnit.tick, hr, hm, ho]
  | true => simp [PulseUnit.tick, hr, hm, ho]

/-! ## Claim timers -/

/-- R129: the range of a claim timer, which is at 0 while it is stopped. -/
abbrev ClaimTimer.Ok (t : ClaimTimer) : Prop := t.count ≤ 255000 ∧ (t.running = false → t.count = 0)

theorem ClaimTimer.stopped_ok : ClaimTimer.stopped.Ok := ⟨Nat.zero_le _, fun _ => rfl⟩
theorem ClaimTimer.load_ok {n : Nat} (hn : n ≤ 255000) : (ClaimTimer.load n).Ok := by
  unfold ClaimTimer.load
  split
  · exact ClaimTimer.stopped_ok
  · exact ⟨hn, nofun⟩
theorem ClaimTimer.Ok.tick {t : ClaimTimer} (h : t.Ok) : t.tick.Ok := by
  unfold ClaimTimer.tick
  split
  · rename_i hr
    exact ⟨(Nat.sub_le _ _).trans h.1, fun k => by rw [hr] at k; cases k⟩
  · exact h
theorem ClaimTimer.cool_ok (late : Bool) {n : Nat} (hn : n ≤ 255000) : (ClaimTimer.cool late n).Ok := by
  unfold ClaimTimer.cool
  split
  · exact (ClaimTimer.load_ok hn).tick
  · exact ClaimTimer.load_ok hn

/-! # Headers and profiles in range (R24, R26, R27, Tables 2-1 and 2-2) -/

theorem senseSettingOf_filter {b : Byte} {x : SenseSetting} (h : senseSettingOf b = some x) : x.filter ≤ 15 := by
  rw [senseSettingOf_eq] at h
  split at h
  · cases h
  · obtain rfl := Option.some.inj h
    exact Nat.le_of_lt_succ (Nat.mod_lt _ (by decide))
/-- A header whose figures fit its kind is in range (Table 2-1). -/
theorem Header.ofArgs_ok {a : HeaderArgs} {k : Kind} {g : Group} {s0 s1 : SenseSetting}
    (hf : k.figuresFit a.value1 a.value2 = true) (h0 : s0.filter ≤ 15) (h1 : s1.filter ≤ 15) :
    (Header.ofArgs a k g s0 s1).Ok := by
  cases k <;> simp_all [Header.Ok, Header.ofArgs, Kind.figuresFit, figureIn]
/-- A header that SET ELEMENT stores is in range (R24). -/
theorem headerOf_ok {a : HeaderArgs} {x : Header} (h : headerOf a = some x) : x.Ok := by
  have whole : ¬ (kindOf a.kind = none ∨ indexOf 4 a.group = none ∨ senseSettingOf a.s0 = none ∨
      senseSettingOf a.s1 = none) := fun bad => by simp [headerOf_badField bad] at h
  simp only [not_or, ← Option.isSome_iff_ne_none, Option.isSome_iff_exists] at whole
  obtain ⟨⟨k, hk⟩, ⟨g, hg⟩, ⟨s0, h0⟩, ⟨s1, h1⟩⟩ := whole
  cases hf : k.figuresFit a.value1 a.value2 with
  | false => simp [headerOf_unfit hk hf] at h
  | true =>
    rw [headerOf_fits hk (indexOf_some.mp hg) h0 h1 hf] at h
    exact Option.some.inj h ▸ Header.ofArgs_ok hf (senseSettingOf_filter h0) (senseSettingOf_filter h1)

/-- A figure that a pair carries lies in the range that its value was checked for (R27). -/
theorem figureIn_of_carried {present : Bool} {lo hi : Nat} {v o : Option Nat} (h : carried present v = some o)
    (range : ∀ n, v = some n → lo ≤ n ∧ n ≤ hi) : figureIn lo hi o := by
  cases present with
  | false => exact Option.some.inj h ▸ rfl
  | true =>
    obtain ⟨n, hn, rfl⟩ := Option.map_eq_some_iff.mp h
    exact figureIn_some.mpr (range n hn)
theorem inRange_range {lo hi : Nat} {v : Half} (n : Nat) (h : inRange lo hi v = some n) : lo ≤ n ∧ n ≤ hi := by
  obtain ⟨range, rfl⟩ := inRange_eq_some.mp h
  exact range
/-- A byte that a pair keeps is in range whatever its value. -/
theorem figureIn_byte (present : Bool) (b : Byte) : figureIn 0 255 (if present then some b.toNat else none) := by
  have := b.isLt
  cases present <;> simp [figureIn]
  omega
/-- A profile that SET PROFILE or STAGE PUT stores is in range (R27, R34). -/
theorem profileOf_ok {k : Kind} {a : ProfileArgs} {pr : Profile} (h : profileOf k a = some pr) : pr.Ok := by
  cases hu : useOf a.use with
  | none => simp [profileOf_badUse hu] at h
  | some u =>
    cases hf : pairFields k u with
    | none => simp [profileOf_unlisted hu hf] at h
    | some f =>
      obtain ⟨credit, cooldown, feed, interval, quota, -, hc, hfeed, hi, hq, rfl⟩ := (profileOf_eq_some hu hf pr).mp h
      refine ⟨figureIn_byte _ _, figureIn_of_carried hc inRange_range, figureIn_byte _ _,
        figureIn_of_carried hfeed inRange_range, figureIn_of_carried hi inRange_range,
        figureIn_of_carried hq fun n hn => ?_⟩
      split at hn
      · obtain rfl := Option.some.inj hn
        exact ⟨Nat.zero_le _, ‹_›⟩
      · cases hn

end Sys2Proof.Machine

namespace Sys2Proof.Machine

/-! # The law of one element (R88, R115, R129, Table 5-2), write by write -/

/-- Everything that the law asks of an element but the timing of its motion. -/
structure Element.Ranged (x : Element) : Prop where
  header : x.header.Ok
  auto : x.planAuto.Ok
  drive : x.planDrive.Ok
  endgame : x.planEndgame.Ok
  pulse : x.pulse.Ok
  timer : x.timer.Ok
  shots : x.shots ≤ 255
  pieces : x.pieces ≤ 65535
  orphans : x.orphans ≤ 65535

/-- The timing of a gate's motion: a moving gate under its SHOT, a braking one under its STROBE. -/
structure Element.Timed (x : Element) : Prop where
  moves : x.header.kind = .gate → x.motion.moving.isSome = true → x.pulse.mode = .shot ∧ x.test = none
  brakes : x.header.kind = .gate → x.motion.pending.isSome = true →
    x.pulse.mode = .strobe ∧ x.pulse.output = false ∧ x.test = none

theorem Element.ok_iff {x : Element} : x.Ok ↔ x.Ranged ∧ x.Timed :=
  ⟨fun ⟨h, a, d, e, u, t, t', n, p, o, m, b⟩ => ⟨⟨h, a, d, e, u, ⟨t, t'⟩, n, p, o⟩, ⟨m, b⟩⟩,
    fun ⟨⟨h, a, d, e, u, ⟨t, t'⟩, n, p, o⟩, ⟨m, b⟩⟩ => ⟨h, a, d, e, u, t, t', n, p, o, m, b⟩⟩
theorem Element.Ok.ranged {x : Element} (h : x.Ok) : x.Ranged := (Element.ok_iff.mp h).1
theorem Element.Ok.timed {x : Element} (h : x.Ok) : x.Timed := (Element.ok_iff.mp h).2

/-- Only a gate moves under a timer. -/
theorem Element.Timed.of_other {x : Element} (h : x.header.kind ≠ .gate) : x.Timed :=
  ⟨fun k => absurd k h, fun k => absurd k h⟩
/-- A motion state that neither moves nor brakes asks for no timer. -/
theorem Element.Timed.of_still {x : Element} (hm : x.motion.moving = none) (hp : x.motion.pending = none) : x.Timed :=
  ⟨fun _ k => by simp [hm] at k, fun _ k => by simp [hp] at k⟩

section
variable {x : Element} (h : x.Ranged)
include h

theorem Element.Ranged.ok (t : x.Timed) : x.Ok := Element.ok_iff.mpr ⟨h, t⟩
/-- Another unit in range, and another motion, purpose and test. -/
theorem Element.Ranged.withUnit {u : PulseUnit} (hu : u.Ok) (m : Motion) (q : Purpose) (t : Option Line) :
    Element.Ranged { x with pulse := u, motion := m, purpose := q, test := t } :=
  ⟨h.header, h.auto, h.drive, h.endgame, hu, h.timer, h.shots, h.pieces, h.orphans⟩
theorem Element.Ranged.drivePulse {f : PulseUnit → PulseUnit} (hf : (f x.pulse).Ok) : (x.drivePulse f).Ranged :=
  h.withUnit hf x.motion x.purpose none

/-! ## The motions of a gate (R90, R92, R93, R95) -/

theorem Element.Ranged.halted : x.halted.Ok :=
  (h.withUnit PulseUnit.stopped_ok .stopped .none none).ok (.of_still rfl rfl)
theorem Element.Ranged.arrive (d : Direction) : (x.arrive d).Ok :=
  (h.withUnit PulseUnit.stopped_ok (arrivedOf d) .none none).ok (.of_still (by cases d <;> rfl) (by cases d <;> rfl))
/-- A gate that starts to drive is timed by the SHOT of its motion limit. -/
theorem Element.Ranged.startDrive (d : Direction) (q : Purpose) : (x.drive d q).Ok := by
  have limit : x.header.motionLimit.getD 0 ≤ 30000 := figureIn_getD_le h.header.1
  refine (h.withUnit (h.pulse.trigger (limit.trans (by decide))) (movingOf d) q none).ok
    ⟨fun _ _ => ⟨rfl, rfl⟩, fun _ k => ?_⟩
  cases d <;> simp [movingOf, Motion.pending] at k
/-- A gate that reverses is timed by the STROBE of its brake time. -/
theorem Element.Ranged.reverse (d : Direction) (q : Purpose) : (x.reverse d q).Ok := by
  obtain ⟨-, -, brake, -⟩ := h.header
  exact (h.withUnit (PulseUnit.startStrobe_ok _ ((figureIn_getD_le brake).trans (by decide))) (.braking d) q none).ok
    ⟨fun _ => nofun, fun _ _ => ⟨rfl, rfl, rfl⟩⟩

end

section
variable {x : Element} (h : x.Ok)
include h

/-- Another claim timer in range. -/
theorem Element.Ok.withTimer {t : ClaimTimer} (ht : t.Ok) : Element.Ok { x with timer := t } :=
  Element.Ranged.ok { h.ranged with timer := ht } ⟨h.timed.moves, h.timed.brakes⟩
/-- A unit of another kind than GATE is commanded. -/
theorem Element.Ok.drivePulse (hk : x.header.kind ≠ .gate) {f : PulseUnit → PulseUnit} (hf : (f x.pulse).Ok) :
    (x.drivePulse f).Ok := (h.ranged.drivePulse hf).ok (.of_other hk)
theorem Element.Ok.stopUnit (hk : x.header.kind ≠ .gate) : (x.drivePulse PulseUnit.stop).Ok :=
  h.drivePulse (f := PulseUnit.stop) hk PulseUnit.stopped_ok
/-- A unit of another kind than GATE changes without a command. -/
theorem Element.Ok.withPulse (hk : x.header.kind ≠ .gate) {u : PulseUnit} (hu : u.Ok) :
    Element.Ok { x with pulse := u } := (h.ranged.withUnit hu x.motion x.purpose x.test).ok (.of_other hk)
/-- Counters in range. -/
theorem Element.Ok.withCounters {n p o : Nat} (hn : n ≤ 255) (hp : p ≤ 65535) (ho : o ≤ 65535) :
    Element.Ok { x with shots := n, pieces := p, orphans := o } :=
  Element.Ranged.ok { h.ranged with shots := hn, pieces := hp, orphans := ho } ⟨h.timed.moves, h.timed.brakes⟩

theorem Element.Ok.setPlan {p : Profile} (hp : p.Ok) (ph : LivePhase) : (x.setPlan ph p).Ok := by
  cases ph
  · exact Element.Ranged.ok { h.ranged with auto := hp } ⟨h.timed.moves, h.timed.brakes⟩
  · exact Element.Ranged.ok { h.ranged with drive := hp } ⟨h.timed.moves, h.timed.brakes⟩
  · exact Element.Ranged.ok { h.ranged with endgame := hp } ⟨h.timed.moves, h.timed.brakes⟩
theorem Element.Ok.plan (ph : LivePhase) : (x.plan ph).Ok := by
  cases ph
  · exact h.ranged.auto
  · exact h.ranged.drive
  · exact h.ranged.endgame
theorem Element.Ok.setSense (i : SenseId) (v : SenseInput) : (x.setSense i v).Ok := by
  cases i <;> exact h

/-! ## What the engine is told (R99, R101, R108, R110, R141) -/

theorem Element.Ok.claimEnded : x.claimEnded.Ok := by
  unfold Element.claimEnded
  split
  · exact h.withCounters (Nat.zero_le _) h.ranged.pieces h.ranged.orphans
  · exact h.stopUnit (by simp [*])
  all_goals exact h
theorem Element.Ok.granted {active : Profile} (ha : active.Ok) : (x.granted active).Ok := by
  obtain ⟨-, -, -, -, interval, -⟩ := ha
  unfold Element.granted
  split
  · exact h.withCounters (Nat.zero_le _) h.ranged.pieces h.ranged.orphans
  · exact h.drivePulse (by simp [*]) (h.ranged.pulse.startRate ((figureIn_getD_le interval).trans (by decide)))
  all_goals exact h
/-- The end of a LINE TEST stops the unit; a gate that is tested neither moves nor brakes (R141). -/
theorem Element.Ok.endTest : x.endTest.Ok := by
  unfold Element.endTest
  split
  · rename_i ht
    have tested : x.test ≠ none := Option.isSome_iff_ne_none.mp ht
    exact (h.ranged.drivePulse PulseUnit.stopped_ok).ok ⟨fun hk hm => absurd (h.timed.moves hk hm).2 tested,
      fun hk hp => absurd (h.timed.brakes hk hp).2.2 tested⟩
  · exact h
theorem Element.Ok.fieldStop : x.fieldStop.Ok := by
  unfold Element.fieldStop
  split
  · exact h
  · exact h.ranged.halted
  all_goals exact h.stopUnit (by simp [*])
theorem Element.Ok.stopHoming : x.stopHoming.Ok := by
  unfold Element.stopHoming
  split
  · exact h.ranged.halted
  · exact h

/-! ## Feeds and shots of a dispenser (R100, R103, R104) -/

theorem Element.Ok.startFeed (hk : x.header.kind ≠ .gate) {active : Profile} (ha : active.Ok) :
    (x.startFeed active).Ok := by
  obtain ⟨-, -, -, feed, -⟩ := ha
  have waves := h.ranged.pulse.startWave ((figureIn_getD_le feed).trans (by decide : 60000 ≤ 65535))
  unfold Element.startFeed
  dsimp only
  split
  · exact (h.drivePulse hk waves).withPulse hk waves.hold
  · exact h.drivePulse hk waves
theorem Element.Ok.stopFeed (hk : x.header.kind ≠ .gate) : x.stopFeed.Ok := by
  unfold Element.stopFeed
  split
  · exact h
  all_goals exact h.stopUnit hk
theorem Element.Ok.openFeed (hk : x.header.kind ≠ .gate) {active : Profile} (ha : active.Ok) :
    (x.openFeed active).Ok := by
  have restarts : (x.stopFeed.startFeed active).Ok :=
    (h.stopFeed hk).startFeed (by rw [x.stopFeed_samePlan.header]; exact hk) ha
  unfold Element.openFeed
  split
  · exact restarts
  · exact restarts
  · split
    · exact h
    · exact h.startFeed hk ha
theorem Element.Ok.fire (hk : x.header.kind ≠ .gate) (quota : Nat) : (x.fire quota).Ok := by
  obtain ⟨-, -, -, -, width, -⟩ := h.ranged.header
  exact (h.drivePulse hk (h.ranged.pulse.trigger ((figureIn_getD_le width).trans (by decide)))).withCounters
    (Nat.min_le_left _ _) h.ranged.pieces h.ranged.orphans

/-! ## The whole element: a tick, a header written, the new-match event (R21, R25, R117, R129, R135) -/

theorem Element.Ok.tick (counting : Bool) (sense : BitVec 48) (e : Elem) : (x.tick counting sense e).Ok := by
  cases counting with
  | false => exact h
  | true =>
    refine Element.Ranged.ok { h.ranged with pulse := h.ranged.pulse.tick, timer := h.ranged.timer.tick }
      ⟨fun hk hm => ?_, fun hk hp => ?_⟩
    · obtain ⟨shot, test⟩ := h.timed.moves hk hm
      exact ⟨PulseUnit.tick_shot shot, test⟩
    · obtain ⟨strobe, unfired, test⟩ := h.timed.brakes hk hp
      exact ⟨(PulseUnit.tick_strobe strobe unfired).1, (PulseUnit.tick_strobe strobe unfired).2, test⟩
theorem Element.Ok.writeHeader {header : Header} (hh : header.Ok) : (x.writeHeader header).Ok :=
  Element.Ranged.ok { h.ranged with header := hh } (.of_still rfl rfl)
theorem Element.Ok.atNewMatch (s : State) : (s.elementAtNewMatch x).Ok := by
  refine Element.Ranged.ok { h.ranged with
    pulse := PulseUnit.stopped_ok, timer := ClaimTimer.stopped_ok
    shots := Nat.zero_le _, pieces := Nat.zero_le _, orphans := Nat.zero_le _ } ?_
  by_cases hk : x.header.kind = .gate
  · have motion : (s.elementAtNewMatch x).motion = x.motion.atNewMatch := if_pos hk
    exact .of_still (by rw [motion]; cases x.motion <;> rfl) (by rw [motion]; cases x.motion <;> rfl)
  · exact .of_other hk

end

theorem Profile.closed_ok : Profile.closed.Ok := by decide

end Sys2Proof.Machine

namespace Sys2Proof.Machine

/-! # What keeps the law of every element: single writes -/

/-- A stage whose entries are in range. -/
abbrev Stage.Ok (st : Stage) : Prop := ∀ e, (st.entries.get e).all (fun p => decide p.Ok) = true

theorem Stage.Ok.entry {st : Stage} (h : st.Ok) {e : Elem} {p : Profile} (he : st.entries.get e = some p) : p.Ok := by
  have := h e
  rw [he] at this
  exact of_decide_eq_true this
theorem Stage.reset_ok : Stage.reset.Ok := fun e => by rw [Stage.reset, replicate_get]; rfl

/-- The law of every element, and of every stage entry. -/
structure State.UnitsHold (s : State) : Prop where
  element : ∀ e, (s.element e).Ok
  stage : s.stage.Ok

theorem State.unitsOk_iff {s : State} : s.UnitsOk ↔ s.UnitsHold :=
  ⟨fun h => ⟨fun e => (h e).1, fun e => (h e).2⟩, fun h e => ⟨h.element e, h.stage e⟩⟩

/-- The law of every element but for the timing of one gate, which a write is about to settle. -/
structure State.UnitsHoldBut (e : Elem) (s : State) : Prop where
  ranged : (s.element e).Ranged
  others : ∀ e', e' ≠ e → (s.element e').Ok
  stage : s.stage.Ok

theorem State.UnitsHoldBut.modifyElement {s : State} {e : Elem} (h : s.UnitsHoldBut e) {f : Element → Element}
    (hf : (f (s.element e)).Ok) : (s.modifyElement e f).UnitsHold := by
  refine ⟨fun e' => ?_, h.stage⟩
  rw [State.element_modifyElement]
  split
  · rename_i he; subst he; exact hf
  · exact h.others e' ‹_›

/-- Every element of a run of due events that keep the law. -/
theorem State.takeEach_unitsHold {ι : Type} {xs : List ι} {due : State → ι → Bool} {act : ι → State → State}
    (step : ∀ i t, State.UnitsHold t → due t i = true → (act i t).UnitsHold) {s : State} (h : s.UnitsHold) :
    (s.takeEach xs due act).UnitsHold := by
  refine State.forEach_keeps State.UnitsHold (fun i _ t ht => ?_) h
  split
  · exact step i t ht ‹_›
  · exact ht

section
variable {s : State} (h : s.UnitsHold)
include h

theorem State.UnitsHold.but (e : Elem) : s.UnitsHoldBut e :=
  ⟨(h.element e).ranged, fun e' _ => h.element e', h.stage⟩
/-- A write beside elements and stage. -/
theorem State.UnitsHold.of_same {t : State} (he : t.elements = s.elements) (hs : t.stage = s.stage) : t.UnitsHold := by
  refine ⟨fun e => ?_, by rw [hs]; exact h.stage⟩
  rw [State.element, he]
  exact h.element e
theorem State.UnitsHold.modifyElement {e : Elem} {f : Element → Element}
    (hf : (s.element e).Ok → (f (s.element e)).Ok) :
    (s.modifyElement e f).UnitsHold := (h.but e).modifyElement (hf (h.element e))
/-- The write of a figure in range leaves the timing of that gate to be settled. -/
theorem State.UnitsHold.modifyBut {e : Elem} {f : Element → Element}
    (hf : (s.element e).Ranged → (f (s.element e)).Ranged) : (s.modifyElement e f).UnitsHoldBut e := by
  refine ⟨?_, fun e' he' => ?_, h.stage⟩
  · rw [State.element_modifyElement_self]
    exact hf (h.element e).ranged
  · rw [State.element_modifyElement_ne _ _ _ _ he']
    exact h.element e'
/-- A claim record is no part of the law. -/
theorem State.UnitsHold.setClaim (e : Elem) (c : ClaimRecord) : (s.setClaim e c).UnitsHold := by
  refine ⟨fun e' => ?_, h.stage⟩
  rw [State.setClaim_element]
  split
  · exact h.element e
  · exact h.element e'
theorem State.UnitsHold.setTimer {e : Elem} {t : ClaimTimer} (ht : t.Ok) : (s.setTimer e t).UnitsHold :=
  h.modifyElement fun hx => hx.withTimer ht
theorem State.UnitsHold.raise (k : NoticeKind) (re : Option Reason) (r : Option Robot) (e : Option Elem)
    (v : Option Int) : (s.raise k re r e v).UnitsHold := h.of_same rfl rfl
theorem State.UnitsHold.setStage {st : Stage} (hs : st.Ok) : State.UnitsHold { s with stage := st } :=
  ⟨h.element, hs⟩
theorem State.UnitsHold.activeProfile (e : Elem) : (s.activeProfile e).Ok := by
  unfold State.activeProfile Element.activeProfile
  split
  · exact (h.element e).plan _
  · exact Profile.closed_ok

/-! ## The claim arbiter (sections 4.4 to 4.6) -/

theorem State.UnitsHold.dropWaiters (e : Elem) (re : Reason) (keep : Robot → Bool) :
    (s.dropWaiters e re keep).UnitsHold := by
  unfold State.dropWaiters
  dsimp only
  rw [State.raiseDrops_eq]
  exact (h.setClaim e _).of_same rfl rfl
theorem State.UnitsHold.dropWaiter (e : Elem) (r : Robot) (re : Reason) (k : Nat) : (s.dropWaiter e r re k).UnitsHold :=
  (h.setClaim e _).raise _ _ _ _ _
theorem State.UnitsHold.enterBlocked (e : Elem) (b : BlockCause) : (s.enterBlocked e b).UnitsHold :=
  (((h.dropWaiters e _ _).setTimer ClaimTimer.stopped_ok).setClaim e _).raise _ _ _ _ _
theorem State.UnitsHold.removeHolder (e : Elem) (r : Robot) (c : Cause) : (s.removeHolder e r c).UnitsHold :=
  ((h.setClaim e _).raise _ _ _ _ _).modifyElement Element.Ok.claimEnded
theorem State.UnitsHold.takeBlock (e : Elem) (b : BlockCause) : (s.takeBlock e b).UnitsHold := by
  unfold State.takeBlock
  split
  · exact (h.removeHolder e _ _).enterBlocked e b
  · exact h.enterBlocked e b
  · exact h.enterBlocked e b
  · exact h.enterBlocked e b
  · exact h.setClaim e _
/-- The timer of a grant runs for the hold limit of the active profile (R130). -/
theorem State.UnitsHold.makeHolder (e : Elem) (r : Robot) : (s.makeHolder e r).UnitsHold := by
  have hold : (s.activeProfile e).holdS ≤ 255 := figureIn_getD_le (h.activeProfile e).1
  exact (h.setClaim e _).setTimer (ClaimTimer.load_ok (Nat.mul_le_mul_right 1000 hold))
theorem State.UnitsHold.tellGrant (e : Elem) : (s.tellGrant e).UnitsHold :=
  h.modifyElement fun hx => hx.granted (h.activeProfile e)
theorem State.UnitsHold.settleReturn (e : Elem) : (s.settleReturn e).UnitsHold := by
  unfold State.settleReturn
  split
  · split
    · exact (h.setClaim e _).setTimer ClaimTimer.stopped_ok
    · exact ((h.makeHolder e _).raise _ _ _ _ _).tellGrant e
  · exact ((h.dropWaiters e _ _).setClaim e _).setTimer ClaimTimer.stopped_ok
theorem State.UnitsHold.finishReturn (e : Elem) : (s.finishReturn e).UnitsHold := by
  unfold State.finishReturn
  split
  · exact h.settleReturn e
  · exact h

end

/-! ## The motions of a gate (R90, R92, R93, R95) -/

section
variable {s : State} {e : Elem} (h : s.UnitsHoldBut e)
include h

theorem State.UnitsHoldBut.jam : (s.jam e).UnitsHold := (h.modifyElement h.ranged.halted).takeBlock e .jam
/-- The start of a motion times the gate anew. -/
theorem State.UnitsHoldBut.startMotion (d : Direction) (q : Purpose) : (s.startMotion e d q).UnitsHold := by
  unfold State.startMotion
  dsimp only
  split
  · exact h.jam
  · split
    · exact h.modifyElement (h.ranged.arrive d)
    · exact h.modifyElement (h.ranged.startDrive d q)

end

/-! ## What an event finds (R103, R105, R117 to R123) -/

theorem PulseUnit.mode_of_rateDue {u : PulseUnit} (hd : u.rateDue = true) : u.mode = .rate :=
  of_decide_eq_true (Bool.and_eq_true_iff.mp hd).1
theorem PulseUnit.mode_of_waveDue {u : PulseUnit} (hd : u.waveDue = true) : u.mode = .wave :=
  of_decide_eq_true (Bool.and_eq_true_iff.mp hd).1
theorem PulseUnit.mode_of_shotDue {u : PulseUnit} (hd : u.shotDue = true) : u.mode = .shot :=
  of_decide_eq_true (Bool.and_eq_true_iff.mp hd).1
theorem PulseUnit.mode_of_strobeDue {u : PulseUnit} (hd : u.strobeDue = true) : u.mode = .strobe :=
  of_decide_eq_true (Bool.and_eq_true_iff.mp (Bool.and_eq_true_iff.mp hd).1).1
/-- An element whose STROBE has fired. -/
def Element.strobeFired (x : Element) : Element := { x with pulse := x.pulse.strobeFire }
theorem State.strobeExpiry_eq (e : Elem) (s : State) : s.strobeExpiry e =
    if (s.element e).header.kind = .gate then (s.modifyElement e Element.strobeFired).brakeEnd e
    else s.modifyElement e Element.strobeFired := by
  unfold State.strobeExpiry
  dsimp only
  rw [State.element_modifyElement_self]
  rfl
theorem Motion.pending_eq_some {m : Motion} {d : Direction} : m.pending = some d ↔ m = .braking d := by
  cases m <;> simp [Motion.pending]
theorem State.brakeEnd_braking {s : State} {e : Elem} {d : Direction} (hm : (s.element e).motion = .braking d) :
    s.brakeEnd e = (s.startMotion e d (s.element e).purpose).finishReturn e := by
  unfold State.brakeEnd
  rw [hm]
theorem State.brakeEnd_unbraked {s : State} {e : Elem} (hp : (s.element e).motion.pending = none) :
    s.brakeEnd e = s := by
  unfold State.brakeEnd
  split
  · rename_i hm
    rw [hm] at hp
    cases hp
  all_goals rfl
/-- Only a dispenser has a feed (R103). -/
theorem State.feedAllowed_kind {s : State} {e : Elem} (h : s.feedAllowed e = true) :
    (s.element e).header.kind = .dispenser := by
  simp only [State.feedAllowed, Bool.and_eq_true, decide_eq_true_eq] at h
  exact h.1.1
theorem countUp_le (n : Nat) : countUp n ≤ 65535 := Nat.min_le_left _ _

section
variable {s : State} (h : s.UnitsHold)
include h

/-- A return that goes on in the direction of the motion, or of the brake, keeps its timer (R96). -/
theorem State.UnitsHold.beginReturn (e : Elem) : (s.beginReturn e).UnitsHold := by
  unfold State.beginReturn
  split
  · exact h.modifyElement id
  · exact (h.but e).startMotion _ _
  · exact (h.but e).startMotion _ _
  · exact (h.but e).startMotion _ _
  · exact h.modifyElement id
  · exact h.modifyElement fun hx => hx.ranged.reverse _ _
  · rename_i hm
    exact h.modifyElement fun hx => Element.Ranged.ok { hx.ranged with }
      ⟨fun _ => nofun, fun hk _ => hx.timed.brakes hk (by rw [hm]; rfl)⟩
theorem State.UnitsHold.enterReturning (e : Elem) {t : ClaimTimer} (ht : t.Ok) : (s.enterReturning e t).UnitsHold := by
  unfold State.enterReturning
  dsimp only
  split
  · exact ((h.setClaim e _).setTimer ClaimTimer.stopped_ok).beginReturn e
  all_goals exact (h.setClaim e _).setTimer ht
/-- The timer of a return runs for the cooldown of the active profile (R131). -/
theorem State.UnitsHold.leaveHolder (e : Elem) (r : Robot) (c : Cause) : (s.leaveHolder e r c).UnitsHold := by
  have removed := h.removeHolder e r c
  obtain ⟨-, cooldown, -⟩ := removed.activeProfile e
  exact removed.enterReturning e (ClaimTimer.cool_ok _ ((figureIn_getD_le cooldown).trans (by decide)))
theorem State.UnitsHold.endClaim (e : Elem) (c : Cause) : (s.endClaim e c).UnitsHold := by
  unfold State.endClaim
  split
  · exact (h.leaveHolder e _ c).finishReturn e
  all_goals exact h
theorem State.UnitsHold.unseat (r : Robot) (c : Cause) (before : State) : (s.unseat r c before).UnitsHold := by
  unfold State.unseat
  split
  · exact h.leaveHolder _ r c
  · split
    · exact h.dropWaiter _ r _ _
    · exact h
theorem State.UnitsHold.removeRobot (r : Robot) (c : Cause) : (s.removeRobot r c).UnitsHold := by
  unfold State.removeRobot
  split
  · exact (h.unseat r c s).finishReturn _
  · exact h.unseat r c s

/-! ## Feeds, pieces and beacons (R103 to R109) -/

theorem State.UnitsHold.startPendingFeed (e : Elem) : (s.startPendingFeed e).UnitsHold := by
  unfold State.startPendingFeed
  split
  · rename_i hf
    exact h.modifyElement fun hx => hx.startFeed (by simp [State.feedAllowed_kind hf]) (h.activeProfile e)
  · exact h.modifyElement id
theorem State.UnitsHold.openFeed {e : Elem} (hf : s.feedAllowed e = true) :
    (s.modifyElement e (Element.openFeed (s.activeProfile e))).UnitsHold :=
  h.modifyElement fun hx => hx.openFeed (by simp [State.feedAllowed_kind hf]) (h.activeProfile e)
theorem State.UnitsHold.feedAtBoundary (e : Elem) : (s.feedAtBoundary e).UnitsHold := by
  unfold State.feedAtBoundary
  split
  · split
    · exact h.openFeed ‹_›
    · exact h.modifyElement fun hx => hx.stopFeed (by simp [*])
  · exact h
theorem State.UnitsHold.addScore (a : Alliance) (x : Int) : (s.addScore a x).UnitsHold := by
  rw [State.addScore_eq]
  exact h.of_same rfl rfl
theorem State.UnitsHold.credit (a : Alliance) (w : Nat) : (s.credit a w).UnitsHold := by
  unfold State.credit
  split
  · exact h.addScore a _
  · exact h
theorem State.UnitsHold.creditPiece (e : Elem) : (s.creditPiece e).UnitsHold := by
  have orphaned : (s.modifyElement e fun x => { x with orphans := countUp x.orphans }).UnitsHold :=
    h.modifyElement fun hx => hx.withCounters hx.ranged.shots hx.ranged.pieces (countUp_le _)
  unfold State.creditPiece
  dsimp only
  repeat' split
  all_goals first
    | exact h
    | exact h.credit _ _
    | exact orphaned
theorem State.UnitsHold.lightLamp {e : Elem} (hk : (s.element e).header.kind = .goal) :
    (s.lightLamp e).UnitsHold := by
  obtain ⟨-, -, -, -, -, -, width, -⟩ := (h.element e).ranged.header
  unfold State.lightLamp
  dsimp only
  split
  · exact h.modifyElement fun hx => hx.withPulse (by simp [hk])
      (hx.ranged.pulse.trigger ((figureIn_getD_le width).trans (by decide)))
  · exact h
theorem State.UnitsHold.takePiece (e : Elem) : (s.takePiece e).UnitsHold := by
  have counted : (s.modifyElement e fun x => { x with pieces := countUp x.pieces }).UnitsHold :=
    h.modifyElement fun hx => hx.withCounters hx.ranged.shots (countUp_le _) hx.ranged.orphans
  unfold State.takePiece
  split
  · exact counted
  · rename_i hk
    refine (counted.creditPiece e).lightLamp ?_
    rw [((State.creditPiece_plays e _).plans e).header, State.element_modifyElement_self]
    exact hk
  all_goals exact h
theorem State.UnitsHold.creditInterval (e : Elem) : (s.creditInterval e).UnitsHold := by
  unfold State.creditInterval
  split
  · split
    · exact h.credit _ _
    · exact h
  · exact h

/-! ## Expiries and accepted changes (R93, R118 to R123, R132, R138, R143) -/

/-- A unit whose expiry is due in a mode that times no gate changes. -/
theorem State.UnitsHold.modifyPulse {e : Elem} {f : PulseUnit → PulseUnit}
    (hs : (s.element e).pulse.mode ≠ .shot) (ht : (s.element e).pulse.mode ≠ .strobe)
    (hf : (s.element e).pulse.Ok → (f (s.element e).pulse).Ok) :
    (s.modifyElement e fun x => { x with pulse := f x.pulse }).UnitsHold :=
  h.modifyElement fun hx =>
    (hx.ranged.withUnit (hf hx.ranged.pulse) _ _ _).ok
      ⟨fun hk hm => absurd (hx.timed.moves hk hm).1 hs, fun hk hp => absurd (hx.timed.brakes hk hp).1 ht⟩
theorem State.UnitsHold.rateExpiry {e : Elem} (hd : (s.element e).pulse.rateDue = true) :
    (s.rateExpiry e).UnitsHold := by
  have rate := PulseUnit.mode_of_rateDue hd
  exact (h.modifyPulse (by simp [rate]) (by simp [rate]) fun hu => hu.rateReload rate).creditInterval e
theorem State.UnitsHold.waveChange {e : Elem} (hd : (s.element e).pulse.waveDue = true) :
    (s.waveChange e).UnitsHold := by
  have wave := PulseUnit.mode_of_waveDue hd
  exact h.modifyPulse (by simp [wave]) (by simp [wave]) fun hu => hu.waveChange wave
/-- A moving gate whose SHOT ends is jammed, and a braking gate has no SHOT (R95, R118). -/
theorem State.UnitsHold.shotExpiry {e : Elem} (hd : (s.element e).pulse.shotDue = true) :
    (s.shotExpiry e).UnitsHold := by
  have shot := PulseUnit.mode_of_shotDue hd
  have ranged : Element.Ranged (Element.shotEnded (s.element e)) :=
    (h.element e).ranged.withUnit (h.element e).ranged.pulse.shotEnd _ _ none
  have unbraked (hk : (s.element e).header.kind = .gate) (hp : (s.element e).motion.pending.isSome = true) : False := by
    simp [((h.element e).timed.brakes hk hp).1] at shot
  have ended : ((s.element e).header.kind = .gate → (s.element e).motion.moving.isSome = true → False) →
      (s.modifyElement e Element.shotEnded).UnitsHold := fun still =>
    h.modifyElement fun _ => ranged.ok ⟨fun hk hm => (still hk hm).elim, fun hk hp => (unbraked hk hp).elim⟩
  rw [State.shotExpiry_eq]
  split
  · rename_i ht
    exact ended fun hk hm => by simp [((h.element e).timed.moves hk hm).2] at ht
  · split
    · split
      · exact (h.modifyBut fun _ => ranged).jam
      · exact ended fun _ hm => absurd hm ‹_›
    · have other : (s.element e).header.kind ≠ .gate := by simp [*]
      split
      · refine State.UnitsHold.endClaim (State.UnitsHold.modifyElement h ?_) e .quota
        exact fun _ => Element.Ranged.ok { ranged with } (.of_other other)
      · exact ended fun hk => absurd hk other
    all_goals exact ended fun hk => by simp [*] at hk
/-- The STROBE of a braking gate ends with the start of its motion (R94, R123). -/
theorem State.UnitsHold.strobeExpiry {e : Elem} (hd : (s.element e).pulse.strobeDue = true) :
    (s.strobeExpiry e).UnitsHold := by
  have strobe := PulseUnit.mode_of_strobeDue hd
  have fires : (s.element e).Ranged → (Element.strobeFired (s.element e)).Ranged := fun hx =>
    hx.withUnit (hx.pulse.strobeFire strobe) _ _ _
  have fired : ((s.element e).header.kind = .gate → (s.element e).motion.pending = none) →
      (s.modifyElement e Element.strobeFired).UnitsHold := fun unbraked =>
    h.modifyElement fun hx => (fires hx.ranged).ok
      ⟨fun hk hm => hx.timed.moves hk hm, fun hk hp => by
        rw [show (s.element e).strobeFired.motion = (s.element e).motion from rfl, unbraked hk] at hp
        cases hp⟩
  rw [State.strobeExpiry_eq]
  have motion : ((s.modifyElement e Element.strobeFired).element e).motion = (s.element e).motion := by
    rw [State.element_modifyElement_self]
    rfl
  split
  · cases hp : (s.element e).motion.pending with
    | some d =>
      rw [State.brakeEnd_braking (motion.trans (Motion.pending_eq_some.mp hp))]
      exact ((h.modifyBut fires).startMotion d _).finishReturn e
    | none =>
      rw [State.brakeEnd_unbraked (by rw [motion]; exact hp)]
      exact fired fun _ => hp
  · exact fired fun hg => absurd hg ‹_›
theorem State.UnitsHold.takePulse (e : Elem) : (s.takePulse e).UnitsHold := by
  unfold State.takePulse
  dsimp only
  split
  · exact h.shotExpiry ‹_›
  · split
    · exact h.rateExpiry ‹_›
    · split
      · exact h.waveChange ‹_›
      · split
        · exact h.strobeExpiry ‹_›
        · exact h
theorem State.UnitsHold.timerExpiry (e : Elem) : (s.timerExpiry e).UnitsHold := by
  have stopped : (s.setTimer e .stopped).UnitsHold := h.setTimer ClaimTimer.stopped_ok
  unfold State.timerExpiry
  dsimp only
  split
  · exact stopped.endClaim e _
  · exact stopped.finishReturn e
  all_goals exact stopped
theorem State.UnitsHold.takeArrival (e : Elem) : (s.takeArrival e).UnitsHold := by
  unfold State.takeArrival
  split
  · exact (h.modifyElement fun hx => hx.ranged.arrive _).finishReturn e
  · exact h
theorem State.UnitsHold.takeReturnEnd (e : Elem) : (s.takeReturnEnd e).UnitsHold := by
  unfold State.takeReturnEnd
  dsimp only
  split
  · exact h.takeArrival e
  · split
    · exact h.timerExpiry e
    · exact h.settleReturn e
theorem State.UnitsHold.acceptSense (e : Elem) (i : SenseId) : (s.acceptSense e i).UnitsHold := by
  have accepted : (s.modifyElement e fun x => x.setSense i ⟨!(x.sense i).high, none⟩).UnitsHold :=
    h.modifyElement fun hx => hx.setSense i _
  unfold State.acceptSense
  dsimp only
  split
  · split
    · exact (accepted.but e).jam
    · exact accepted
  · rename_i hk
    have other :
        ((s.modifyElement e fun x => x.setSense i ⟨!(x.sense i).high, none⟩).element e).header.kind ≠ .gate := by
      rw [hk]
      nofun
    split
    · split
      · exact accepted.takePiece e
      · exact accepted
    · split
      · exact accepted.modifyElement fun hx => hx.withPulse other hx.ranged.pulse.hold
      · exact accepted.modifyElement fun hx => hx.withPulse other hx.ranged.pulse.continueWave
      · exact accepted
  · split
    · split
      · exact accepted.takePiece e
      · exact accepted
    · exact accepted
  all_goals exact accepted
theorem State.UnitsHold.stopElement (e : Elem) : (s.stopElement e).UnitsHold := by
  have ended : (s.modifyElement e Element.endTest).UnitsHold := h.modifyElement Element.Ok.endTest
  unfold State.stopElement
  dsimp only
  split
  · exact ended
  · exact (ended.modifyElement Element.Ok.fieldStop).takeBlock e _

/-! ## Events of the roster and of the lines -/

theorem State.UnitsHold.silenceExpiry (p : Port) : (s.silenceExpiry p).UnitsHold := by
  refine State.forEach_keeps State.UnitsHold (fun e _ t ht => ht.finishReturn e)
    (State.forEach_keeps State.UnitsHold (fun r _ t ht => ?_) (h.of_same rfl rfl))
  exact State.UnitsHold.unseat (ht.raise _ _ _ _ _) r _ _
theorem State.UnitsHold.takeSilences : s.takeSilences.UnitsHold :=
  State.takeEach_unitsHold (fun p _ ht _ => ht.silenceExpiry p) h
theorem State.UnitsHold.benchExpiry (r : Robot) : (s.benchExpiry r).UnitsHold := h.of_same rfl rfl
theorem State.UnitsHold.releaseStop (g : Group) : (s.releaseStop g).UnitsHold := h.of_same rfl rfl
theorem State.UnitsHold.assertStop (g : Group) : (s.assertStop g).UnitsHold :=
  State.forEach_keeps State.UnitsHold (fun e _ _ ht => ht.stopElement e) (h.of_same rfl rfl)
theorem State.UnitsHold.takeStop (g : Group) : (s.takeStop g).UnitsHold := by
  unfold State.takeStop
  split
  · exact h.assertStop g
  · split
    · exact h.releaseStop g
    · exact h
theorem State.UnitsHold.frameComplete (p : Port) : (s.frameComplete p).UnitsHold := by
  unfold State.frameComplete
  dsimp only
  split
  · split
    · exact State.forEach_keeps State.UnitsHold (fun _ _ _ ht => ht.raise _ _ _ _ _) (h.of_same rfl rfl)
    · exact h.of_same rfl rfl
  · exact h

/-! ## Boundaries (R31, R37, R40, R58, R83, R84, R103) -/

theorem State.UnitsHold.claimAtLive (e : Elem) : (s.claimAtLive e).UnitsHold := by
  have forgot := h.setClaim e { s.claim e with lastAlliance := none }
  have hold := figureIn_getD_le (forgot.activeProfile e).1
  unfold State.claimAtLive
  dsimp only
  split
  · exact forgot
  · split
    · refine (forgot.setTimer (ClaimTimer.load_ok (Nat.mul_le_mul_right 1000 hold))).dropWaiters e _ _
    · exact ((forgot.leaveHolder e _ _).dropWaiters e _ _).finishReturn e
  · exact forgot.dropWaiters e _ _
  all_goals exact forgot.setClaim e _
theorem State.UnitsHold.claimAtStop (e : Elem) : (s.claimAtStop e).UnitsHold := by
  unfold State.claimAtStop
  split
  · exact h
  · exact h
  · exact ((h.leaveHolder e _ _).dropWaiters e _ _).finishReturn e
  · exact h.dropWaiters e _ _
  · exact h.setClaim e _
theorem State.UnitsHold.claimsAtBoundary : s.claimsAtBoundary.UnitsHold := by
  unfold State.claimsAtBoundary
  split
  · exact State.forEach_keeps State.UnitsHold (fun e _ _ ht => ht.claimAtLive e) h
  · exact State.forEach_keeps State.UnitsHold (fun e _ _ ht => ht.claimAtStop e) h
theorem State.UnitsHold.announceEnables (before : State) : (s.announceEnables before).UnitsHold := by
  refine State.forEach_keeps State.UnitsHold (fun r _ t ht => ?_) h
  split
  · exact ht.raise _ _ _ _ _
  · exact ht
/-- Roster and arbiter at a boundary, in either order of their notices (R87). -/
theorem State.UnitsHold.rosterAndArbiter (before : State) : (s.rosterAndArbiter before).UnitsHold := by
  have settled := (h.announceEnables before).claimsAtBoundary
  rw [State.rosterAndArbiter_eq]
  generalize (s.announceEnables before).claimsAtBoundary = u at settled ⊢
  exact settled.of_same rfl rfl
theorem State.UnitsHold.voidStage : s.voidStage.UnitsHold := by
  unfold State.voidStage
  split
  · exact h
  all_goals exact (h.setStage Stage.reset_ok).raise _ _ _ _ _
/-- The staged profiles that are applied are in range (R37). -/
theorem State.UnitsHold.stageAtBoundary : s.stageAtBoundary.UnitsHold := by
  have stage : s.stageAtBoundary.stage.Ok := by
    rw [State.stageAtBoundary_stage]
    split
    · exact Stage.reset_ok
    · exact h.stage
  refine ⟨fun e => ?_, stage⟩
  rw [State.stageAtBoundary_element]
  have planned : ∀ ph, (s.planAtBoundary e ph).Ok := fun ph => by
    unfold State.planAtBoundary
    split
    · cases hp : s.stage.entries.get e with
      | none => exact (h.element e).plan ph
      | some p => exact h.stage.entry hp
    · exact (h.element e).plan ph
  exact Element.Ranged.ok
    { (h.element e).ranged with auto := planned .auto, drive := planned .drive, endgame := planned .endgame }
    ⟨(h.element e).timed.moves, (h.element e).timed.brakes⟩
theorem State.UnitsHold.enter (reason : Reason) (c : Clock) : (s.enter reason c).UnitsHold := by
  have entered : (s.transition reason c).UnitsHold := h.of_same rfl rfl
  have prepared : (s.prepared reason c).UnitsHold :=
    entered.stageAtBoundary.of_same (by rw [State.prepared_eq]) (by rw [State.prepared_eq])
  rw [State.enter_eq]
  exact State.forEach_keeps State.UnitsHold (fun e _ _ ht => ht.feedAtBoundary e) (prepared.rosterAndArbiter s)
theorem State.UnitsHold.autoExpiry : s.autoExpiry.UnitsHold := by
  unfold State.autoExpiry
  dsimp only
  split
  · exact h.takeSilences.enter _ _
  · exact h.enter _ _
theorem State.UnitsHold.takePhase : s.takePhase.UnitsHold := by
  unfold State.takePhase
  split
  · exact h.autoExpiry
  · split
    · exact h.takeSilences.enter _ _
    · split
      · exact h.takeSilences.enter _ _
      · split
        · exact h.enter _ _
        · exact h

/-! ## Ticks, and the state in which a request is examined -/

theorem State.UnitsHold.settled : s.settled.UnitsHold := by
  have roster := State.takeEach_unitsHold (xs := allRobots) (due := State.benchDue)
    (fun r _ ht _ => ht.benchExpiry r) h.takeSilences
  have timers := State.takeEach_unitsHold (xs := allElems) (due := fun s e => (s.element e).timer.due)
    (fun e _ ht _ => ht.timerExpiry e)
    (State.forEach_keeps State.UnitsHold (xs := allElems) (fun e _ _ ht => ht.takePulse e) roster)
  have senses := State.takeEach_unitsHold (xs := allElems) (due := State.senseDue .s1)
    (fun e _ ht _ => ht.acceptSense e .s1)
    (State.takeEach_unitsHold (xs := allElems) (due := State.senseDue .s0) (fun e _ ht _ => ht.acceptSense e .s0) timers)
  have stops := State.forEach_keeps State.UnitsHold (xs := allGroups) (fun g _ _ ht => ht.takeStop g) senses
  have feeds := State.takeEach_unitsHold (xs := allElems) (due := fun s e => (s.element e).feedDue)
    (fun e _ ht _ => ht.startPendingFeed e) stops
  have arrivals := State.takeEach_unitsHold (xs := allElems) (due := fun s e => (s.element e).arrivalDue)
    (fun e _ ht _ => ht.takeArrival e) feeds
  exact State.UnitsHold.takePhase (State.takeEach_unitsHold (fun e _ ht _ => ht.settleReturn e) arrivals)
theorem State.UnitsHold.examined (p : Port) : (s.examined p).UnitsHold := h.settled.frameComplete p
theorem State.UnitsHold.count (sense : BitVec 48) (fs : BitVec 4) : (s.count sense fs).UnitsHold := by
  refine ⟨fun e => ?_, h.stage⟩
  rw [State.count_element]
  exact (h.element e).tick _ _ _
/-- Every event keeps the law. -/
theorem State.UnitsHold.event {c : Instr} {due : State → Bool} {act : State → State}
    (hc : eventOf c = some (due, act)) (hd : due s = true) : (act s).UnitsHold := by
  cases c <;> cases hc
  case autoExpiry => exact h.autoExpiry
  case breakExpiry => exact h.takeSilences.enter _ _
  case endgameThreshold => exact h.takeSilences.enter _ _
  case naturalFinish => exact h.enter _ _
  case feedPendingStart e => exact h.startPendingFeed e
  case benchExpiry r => exact h.benchExpiry r
  case silenceExpiry p => exact h.silenceExpiry p
  case shotExpiry e => exact h.shotExpiry hd
  case rateExpiry e => exact h.rateExpiry hd
  case waveHalfChange e => exact h.waveChange hd
  case strobeExpiry e => exact h.strobeExpiry hd
  case claimTimerExpiry e => exact h.timerExpiry e
  case senseChangeAccepted e i => exact h.acceptSense e i
  case fieldStopAsserted g => exact h.assertStop g
  case fieldStopReleased g => exact h.releaseStop g
  case gateArrival e => exact h.takeArrival e
  case returnEnd e => exact h.takeReturnEnd e

end

end Sys2Proof.Machine

namespace Sys2Proof.Machine

/-! # Every request, command and step keeps the law of every element -/

/-- A tuned value in range (R126, Table 6-4). -/
theorem PulseUnit.Ok.tuned {u : PulseUnit} (h : u.Ok) {v : Nat × Mode} (hv : v.1 ≤ 65535) :
    PulseUnit.Ok { u with pendingTune := some v } := by
  obtain ⟨period, count, -, idle, shot, rate, wave, strobe⟩ := h
  exact ⟨period, count, decide_eq_true hv, idle, shot, rate, wave, strobe⟩
theorem tuneRange_le {k : Kind} {m : Mode} {lo hi : Nat} (h : tuneRange k m = some (lo, hi)) :
    lo ≤ hi ∧ hi ≤ 60000 := by
  unfold tuneRange at h
  split at h <;> cases h <;> decide

section
variable {x : Element} (h : x.Ok)
include h

/-- A new tuned value leaves the unit's mode and output, and with them the timing of a gate. -/
theorem Element.Ok.tuned {v : Nat × Mode} (hv : v.1 ≤ 65535) :
    Element.Ok { x with pulse := { x.pulse with pendingTune := some v } } :=
  (h.ranged.withUnit (h.ranged.pulse.tuned hv) x.motion x.purpose x.test).ok ⟨h.timed.moves, h.timed.brakes⟩
/-- A LINE TEST starts on an idle unit, whose gate neither moves nor brakes (R140). -/
theorem Element.Ok.startTest (hm : x.pulse.mode = .idle) {w : Nat} (hw : w ≤ 65535) (l : Line) :
    Element.Ok { x with pulse := x.pulse.testTrigger w, test := some l } :=
  (h.ranged.withUnit (x.pulse.testTrigger_ok hw) x.motion x.purpose (some l)).ok
    ⟨fun hk k => by simp [(h.timed.moves hk k).1] at hm, fun hk k => by simp [(h.timed.brakes hk k).1] at hm⟩

end

theorem Stage.Ok.put {st : Stage} (h : st.Ok) {e : Elem} {p : Profile} (hp : p.Ok) : (st.put e p).Ok := fun e' => by
  by_cases he : e' = e
  · subst he
    rw [Stage.put, get_set_self]
    exact decide_eq_true hp
  · rw [Stage.put, get_set_ne _ _ _ _ he]
    exact h e'

section
variable {s : State} (h : s.UnitsHold)
include h

/-! ## The requests of a bridge (R62 to R67, R92, R100) -/

theorem State.UnitsHold.claimRequest (p : Port) (robot element : Byte) :
    (s.claimRequest p robot element).1.UnitsHold := by
  unfold State.claimRequest State.grantClaim State.queueClaim
  dsimp only
  repeat' split
  all_goals first
    | exact h
    | exact (h.makeHolder _ _).tellGrant _
    | exact h.setClaim _ _
theorem State.UnitsHold.releaseRequest (p : Port) (robot element : Byte) :
    (s.releaseRequest p robot element).1.UnitsHold := by
  unfold State.releaseRequest
  repeat' split
  all_goals first
    | exact h
    | exact h.endClaim _ _
theorem State.UnitsHold.withdrawRequest (p : Port) (robot : Byte) : (s.withdrawRequest p robot).1.UnitsHold := by
  unfold State.withdrawRequest
  dsimp only
  repeat' split
  all_goals first
    | exact h
    | exact h.setClaim _ _
theorem State.UnitsHold.moveGate (e : Elem) (d : Direction) : (s.moveGate e d).1.UnitsHold := by
  unfold State.moveGate
  split
  all_goals first
    | exact h
    | exact h.modifyElement fun hx => hx.ranged.reverse _ _
    | exact (h.but e).startMotion _ _
theorem State.UnitsHold.moveRequest (p : Port) (robot element direction : Byte) :
    (s.moveRequest p robot element direction).1.UnitsHold := by
  unfold State.moveRequest
  repeat' split
  all_goals first
    | exact h
    | exact h.moveGate _ _
theorem State.UnitsHold.dispenseRequest (p : Port) (robot element : Byte) :
    (s.dispenseRequest p robot element).1.UnitsHold := by
  unfold State.dispenseRequest
  dsimp only
  repeat' split
  all_goals first
    | exact h
    | exact h.modifyElement fun hx => hx.fire (by simp_all) _

/-! ## The requests on the plan (R9, R24, R27, R34 to R36, R44, R45, R140) -/

theorem State.UnitsHold.elementRequest (element : Byte) (a : HeaderArgs) :
    (s.elementRequest element a).1.UnitsHold := by
  unfold State.elementRequest
  split
  · exact h
  · split
    · rename_i header _ hheader
      dsimp only
      split
      · exact h
      · split
        · exact h
        · exact (h.modifyElement fun hx => hx.writeHeader (headerOf_ok hheader)).of_same rfl rfl
    · exact h
theorem State.UnitsHold.profileRequest (element phase : Byte) (a : ProfileArgs) :
    (s.profileRequest element phase a).1.UnitsHold := by
  unfold State.profileRequest
  split
  · exact h
  · split
    · split
      · dsimp only
        refine h.modifyElement fun hx => ?_
        exact hx.setPlan (profileOf_ok ‹_›) _
      · exact h
    · exact h
theorem State.UnitsHold.bindRequest (robot port alliance : Byte) : (s.bindRequest robot port alliance).1.UnitsHold := by
  unfold State.bindRequest
  repeat' split
  all_goals exact h.of_same rfl rfl
theorem State.UnitsHold.unbindRequest (robot : Byte) : (s.unbindRequest robot).1.UnitsHold := by
  unfold State.unbindRequest
  repeat' split
  all_goals exact h.of_same rfl rfl
theorem State.UnitsHold.timingRequest (a : TimingArgs) : (s.timingRequest a).1.UnitsHold := by
  unfold State.timingRequest
  split <;> exact h.of_same rfl rfl
theorem State.UnitsHold.testRequest (element line : Byte) (width : Half) :
    (s.testRequest element line width).1.UnitsHold := by
  unfold State.testRequest
  split
  · rename_i e l w _ _ hw
    obtain ⟨-, le⟩ := inRange_range w hw
    dsimp only
    split
    · exact h
    · split
      · exact h
      · split
        · exact h
        · split
          · exact h
          · rename_i hm
            dsimp only
            refine h.modifyElement fun hx => ?_
            exact hx.startTest (Decidable.not_not.mp hm) (le.trans (by decide)) l
  · exact h
theorem State.UnitsHold.stageOpenRequest : s.stageOpenRequest.1.UnitsHold := by
  unfold State.stageOpenRequest
  split
  · exact h
  · split
    · exact h.setStage Stage.reset_ok
    all_goals exact h
theorem State.UnitsHold.stagePutRequest (element : Byte) (a : ProfileArgs) :
    (s.stagePutRequest element a).1.UnitsHold := by
  unfold State.stagePutRequest
  split
  · exact h
  · exact h
  · split
    · split
      · exact h.setStage (h.stage.put (profileOf_ok ‹_›))
      · exact h
    · exact h
theorem State.UnitsHold.stageSealRequest : s.stageSealRequest.1.UnitsHold := by
  unfold State.stageSealRequest
  split
  · exact h
  · exact h
  · split
    · exact h
    · exact h.setStage h.stage
theorem State.UnitsHold.stageDiscardRequest : s.stageDiscardRequest.1.UnitsHold := by
  unfold State.stageDiscardRequest
  split
  · exact h
  all_goals exact h.setStage Stage.reset_ok

/-! ## The requests on the match (R10 to R21) -/

theorem State.UnitsHold.transition (reason : Reason) (c : Clock) : (s.transition reason c).UnitsHold :=
  h.of_same rfl rfl
theorem State.UnitsHold.homeGate (e : Elem) : (s.homeGate e).UnitsHold := by
  rw [State.homeGate_eq]
  split
  · exact (h.but e).startMotion _ _
  · exact h
theorem State.UnitsHold.armRequest : s.armRequest.1.UnitsHold := by
  unfold State.armRequest
  split
  · exact h
  · split
    · exact h
    · split
      · exact h
      · dsimp only
        exact State.forEach_keeps State.UnitsHold (fun e _ _ ht => ht.homeGate e)
          (State.forEach_keeps State.UnitsHold (fun _ _ _ ht => ht.modifyElement Element.Ok.endTest)
            (h.transition _ _))
theorem State.UnitsHold.disarmRequest : s.disarmRequest.1.UnitsHold := by
  unfold State.disarmRequest
  split
  · exact h
  · dsimp only
    exact State.forEach_keeps State.UnitsHold (fun _ _ _ ht => ht.modifyElement Element.Ok.stopHoming)
      (h.transition _ _).voidStage
theorem State.UnitsHold.startRequest : s.startRequest.1.UnitsHold := by
  unfold State.startRequest
  split
  · exact h
  · split
    · exact h
    · dsimp only
      exact h.enter _ _
theorem State.UnitsHold.haltRequest : s.haltRequest.1.UnitsHold := by
  unfold State.haltRequest
  split
  · dsimp only
    exact (h.transition _ _).announceEnables s
  · split <;> exact h
theorem State.UnitsHold.resumeRequest : s.resumeRequest.1.UnitsHold := by
  unfold State.resumeRequest
  split
  · dsimp only
    exact (h.transition _ _).announceEnables s
  · exact h
theorem State.UnitsHold.abortRequest : s.abortRequest.1.UnitsHold := by
  unfold State.abortRequest
  split
  · dsimp only
    exact h.enter _ _
  · exact h
theorem State.UnitsHold.finaliseRequest : s.finaliseRequest.1.UnitsHold := by
  unfold State.finaliseRequest
  split
  · dsimp only
    exact h.transition _ _
  · exact h
theorem State.UnitsHold.newMatchEvent : s.newMatchEvent.UnitsHold := by
  refine ⟨fun e => ?_, h.stage⟩
  rw [State.newMatchEvent_element]
  exact (h.element e).atNewMatch s
theorem State.UnitsHold.newMatchRequest : s.newMatchRequest.1.UnitsHold := by
  unfold State.newMatchRequest
  split
  · dsimp only
    exact (h.transition _ _).newMatchEvent
  · exact h

/-! ## The requests on robots, scores and elements (R46 to R48, R67, R81, R125, R151, R152) -/

theorem State.UnitsHold.tellStanding (r : Robot) (reason : Reason) : (s.tellStanding r reason).UnitsHold := by
  unfold State.tellStanding
  split
  · exact h.removeRobot r _
  · exact h.removeRobot r _
  · exact h
theorem State.UnitsHold.penaltyPoints (r : Robot) (points : Nat) : (s.penaltyPoints r points).UnitsHold := by
  unfold State.penaltyPoints
  split
  · exact h.addScore _ _
  · exact h
theorem State.UnitsHold.penaltyRequest (robot points bench : Byte) :
    (s.penaltyRequest robot points bench).1.UnitsHold := by
  unfold State.penaltyRequest
  split
  · exact h
  · split
    · split
      · exact h
      · rename_i r _ _
        have scored := h.penaltyPoints r points.toNat
        dsimp only
        split
        · exact scored
        · refine State.UnitsHold.tellStanding ?_ r _
          exact scored.of_same rfl rfl
    · exact h
theorem State.UnitsHold.adjustRequest (alliance : Byte) (amount : Half) :
    (s.adjustRequest alliance amount).1.UnitsHold := by
  unfold State.adjustRequest
  split
  · exact h
  · split
    · exact h.addScore _ _
    · exact h
theorem State.UnitsHold.freeRequest (element : Byte) : (s.freeRequest element).1.UnitsHold := by
  unfold State.freeRequest
  split
  · split
    · exact h.endClaim _ _
    all_goals exact h
  · exact h
theorem State.UnitsHold.rearmElement (e : Elem) : (s.rearmElement e).UnitsHold := by
  have returning : (s.setClaimState e .returning).UnitsHold := h.setClaim e _
  have settled := ((returning.raise .element (some .rearmed) none (some e) none).enterReturning e
    ClaimTimer.stopped_ok).finishReturn e
  unfold State.rearmElement
  dsimp only
  split
  · exact settled.openFeed ‹_›
  · exact settled
theorem State.UnitsHold.rearmRequest (element : Byte) : (s.rearmRequest element).1.UnitsHold := by
  unfold State.rearmRequest
  split
  · split
    · exact h
    · split
      · exact h.rearmElement _
      · exact h
  · exact h
theorem State.UnitsHold.tuneRequest (element : Byte) (value : Half) : (s.tuneRequest element value).1.UnitsHold := by
  unfold State.tuneRequest
  split
  · split
    · exact h
    · dsimp only
      split
      · rename_i lo hi hr
        obtain ⟨order, top⟩ := tuneRange_le hr
        have clamped : clampHalf lo hi value ≤ hi := max_le order (min_le_left _ _)
        dsimp only
        refine h.modifyElement fun hx => ?_
        exact hx.tuned ((clamped.trans top).trans (by decide))
      · exact h
  · exact h

/-! ## Every request, every command, every step -/

theorem State.UnitsHold.request {c : Instr} {p : Port} {code : Byte} {body : State → State × Answer}
    (hq : requestOf c = some (p, code, body)) : (body s).1.UnitsHold := by
  cases c <;> cases hq
  case ping | readClock | readScores | readRobot | readElement => exact h
  case readNotice => unfold State.takeNotices; split <;> exact h.of_same rfl rfl
  case subscribe => exact h.of_same rfl rfl
  case snapshot =>
    unfold State.latchSnapshot
    dsimp only
    repeat' split
    all_goals exact h.of_same rfl rfl
  case readSnapshot => exact h.of_same rfl rfl
  case claim => exact h.claimRequest _ _ _
  case release => exact h.releaseRequest _ _ _
  case withdraw => exact h.withdrawRequest _ _
  case move => exact h.moveRequest _ _ _ _
  case dispense => exact h.dispenseRequest _ _ _
  case setTiming => exact h.timingRequest _
  case setElement => exact h.elementRequest _ _
  case setProfile => exact h.profileRequest _ _ _
  case bind => exact h.bindRequest _ _ _
  case unbind => exact h.unbindRequest _
  case lineTest => exact h.testRequest _ _ _
  case arm => exact h.armRequest
  case disarm => exact h.disarmRequest
  case start => exact h.startRequest
  case halt => exact h.haltRequest
  case resume => exact h.resumeRequest
  case abort => exact h.abortRequest
  case finalise => exact h.finaliseRequest
  case newMatch => exact h.newMatchRequest
  case penalty => exact h.penaltyRequest _ _ _
  case adjust => exact h.adjustRequest _ _
  case free => exact h.freeRequest _
  case rearm => exact h.rearmRequest _
  case tune => exact h.tuneRequest _ _
  case stageOpen => exact h.stageOpenRequest
  case stagePut => exact h.stagePutRequest _ _
  case stageSeal => exact h.stageSealRequest
  case stageDiscard => exact h.stageDiscardRequest
theorem State.UnitsHold.exec {c : Instr} {t : State} (he : Sys2Proof.Machine.exec c s = .next t) : t.UnitsHold := by
  rcases exec_cases he with k | ⟨straps, sense, fs, -, k⟩ | ⟨sense, fs, -, k⟩ | ⟨due, act, hc, hd, k⟩ |
    ⟨p, code, body, bytes, hc, k⟩ | ⟨p, bytes, k⟩ | ⟨p, f, k⟩ | k <;> rw [k]
  · exact h
  · refine ⟨fun e => ?_, fun e => ?_⟩
    · rw [State.afterReset_element]
      exact Element.reset_ok _ _
    · rw [State.afterReset_stageEntry]
      rfl
  · exact h.settled.count sense fs
  · exact h.event hc hd
  · exact ((h.examined p).request hc).of_same rfl rfl
  · exact (h.examined p).of_same rfl rfl
  · exact h.of_same rfl rfl
  · exact h.of_same rfl rfl

end

/-- Settles O60: every command keeps the law of every element, and so does a step. -/
theorem stepKeepsElementUnits : Obligations.StepKeepsElementUnits := fun _ _ h hs =>
  State.unitsOk_iff.mpr (step_keeps (P := State.UnitsHold) (fun _ _ h => h.of_same rfl rfl)
    (fun _ _ h => h.of_same rfl rfl) (fun _ _ _ h => h.of_same rfl rfl) (fun _ _ _ h he => h.exec he)
    (State.unitsOk_iff.mp h) hs)

end Sys2Proof.Machine

namespace Sys2Proof.Machine

/-! # Counted pieces (R105 to R107, R126) -/

/-- A write of what stands there already. -/
theorem State.setElement_element (e : Elem) (s : State) : s.setElement e (s.element e) = s := by
  have same : s.elements.set e.val (s.element e) e.isLt = s.elements := Vector.set_getElem_self _
  rw [State.setElement, same]
/-- Scores and elements are written apart. -/
theorem State.addScore_modifyElement (a : Alliance) (n : Int) (e : Elem) (f : Element → Element) (s : State) :
    (s.addScore a n).modifyElement e f = (s.modifyElement e f).addScore a n := by
  have published : (s.modifyElement e f).published = s.published := rfl
  have accumulators : (s.modifyElement e f).accumulators = s.accumulators := rfl
  unfold State.addScore
  dsimp only
  rw [published, accumulators]
  split <;> rfl
theorem State.credit_live {s : State} (hl : s.clock.state.isLive = true) (a : Alliance) (w : Nat) :
    s.credit a w = s.addScore a ((w * s.currentMultiplier.getD 0 : Nat) : Int) := if_pos hl

/-- When a counted piece lights the lamp of a goal (R107). -/
abbrev Element.Lights (m : MatchState) (x : Element) : Prop :=
  0 < x.header.lampWidth.getD 0 ∧ m ≠ .halted ∧ x.claim.state.isBlocked = false ∧ x.test = none
/-- A lamp after a counted piece: its SHOT triggered or retriggered, with a tuned width if one is pending. -/
def Element.lamped (m : MatchState) (x : Element) : Element :=
  { x with pulse := if x.Lights m then x.pulse.trigger (x.header.lampWidth.getD 0) else x.pulse }
theorem State.lightLamp_eq (e : Elem) (s : State) :
    s.lightLamp e = s.modifyElement e (Element.lamped s.clock.state) := by
  by_cases hl : (s.element e).Lights s.clock.state
  · obtain ⟨width, unhalted, unblocked, untested⟩ := id hl
    have lamp : (s.element e).lamped s.clock.state =
        { s.element e with pulse := (s.element e).pulse.trigger ((s.element e).header.lampWidth.getD 0) } := by
      rw [Element.lamped, if_pos hl]
    rw [State.modifyElement, lamp]
    exact if_pos (by simp [width, unhalted, unblocked, untested])
  · have dark : (s.element e).lamped s.clock.state = s.element e := by rw [Element.lamped, if_neg hl]
    rw [State.modifyElement, dark, State.setElement_element]
    exact if_neg fun k => hl (by simpa [and_assoc] using k)
/-- The lamp is lit whatever the score. -/
theorem State.addScore_lightLamp (a : Alliance) (n : Int) (e : Elem) (s : State) :
    (s.addScore a n).lightLamp e = (s.lightLamp e).addScore a n := by
  have clock : (s.addScore a n).clock = s.clock := by rw [State.addScore_eq]
  rw [State.lightLamp_eq, State.lightLamp_eq, clock, State.addScore_modifyElement]

/-- An element with a piece more. -/
def Element.counted (x : Element) : Element := { x with pieces := countUp x.pieces }
theorem State.takePiece_goal {s : State} {e : Elem} (hk : (s.element e).header.kind = .goal) :
    s.takePiece e = ((s.modifyElement e Element.counted).creditPiece e).lightLamp e := by
  rw [State.takePiece, hk]
  rfl

section
variable {s : State} {e : Elem}

theorem State.activeProfile_counted :
    (s.modifyElement e Element.counted).activeProfile e = s.activeProfile e := by
  rw [State.activeProfile, State.element_modifyElement_self]
  rfl
theorem State.claim_counted : (s.modifyElement e Element.counted).claim e = s.claim e := by
  rw [State.claim, State.element_modifyElement_self]
  rfl

/-- The credit of a piece that is counted, as the state before the count settles it (R106). -/
theorem State.creditPiece_counted : (s.modifyElement e Element.counted).creditPiece e =
    if s.clock.state.isLive = true then
      match (s.activeProfile e).use with
      | .auto =>
        match (s.activeProfile e).credit with
        | some (.fixed a) => (s.modifyElement e Element.counted).credit a ((s.activeProfile e).weight.getD 0)
        | some .holder | none => s.modifyElement e Element.counted
      | .claim =>
        match (s.claim e).state with
        | .held r =>
          match (s.robot r).alliance with
          | some a => (s.modifyElement e Element.counted).credit a ((s.activeProfile e).weight.getD 0)
          | none => s.modifyElement e Element.counted
        | .inert | .free | .returning | .blocked _ =>
          (s.modifyElement e Element.counted).modifyElement e fun x => { x with orphans := countUp x.orphans }
      | .closed => s.modifyElement e Element.counted
    else s.modifyElement e Element.counted := by
  unfold State.creditPiece
  dsimp only
  rw [State.activeProfile_counted, State.claim_counted]
  rfl

/-! ## The four ways of a goal piece (R106) -/

variable (hk : (s.element e).header.kind = .goal)
include hk

theorem State.takePiece_auto {a : Alliance} (hl : s.clock.state.isLive = true) (hu : (s.activeProfile e).use = .auto)
    (hc : (s.activeProfile e).credit = some (.fixed a)) : s.takePiece e =
      ((s.modifyElement e Element.counted).credit a ((s.activeProfile e).weight.getD 0)).lightLamp e := by
  rw [State.takePiece_goal hk, State.creditPiece_counted, if_pos hl, hu, hc]
theorem State.takePiece_held {r : Robot} {a : Alliance} (hl : s.clock.state.isLive = true)
    (hu : (s.activeProfile e).use = .claim) (hc : (s.claim e).state = .held r) (ha : (s.robot r).alliance = some a) :
    s.takePiece e = ((s.modifyElement e Element.counted).credit a ((s.activeProfile e).weight.getD 0)).lightLamp e := by
  rw [State.takePiece_goal hk, State.creditPiece_counted, if_pos hl, hu, hc]
  dsimp only
  rw [ha]
theorem State.takePiece_orphan (hl : s.clock.state.isLive = true) (hu : (s.activeProfile e).use = .claim)
    (hc : (s.claim e).state.holder = none) : s.takePiece e =
      (s.modifyElement e fun x => { x.counted with orphans := countUp x.orphans }).lightLamp e := by
  have orphaned : (s.modifyElement e Element.counted).creditPiece e =
      s.modifyElement e fun x => { x.counted with orphans := countUp x.orphans } := by
    rw [State.creditPiece_counted, if_pos hl, hu]
    cases hs : (s.claim e).state with
    | held r => simp [hs, ClaimState.holder] at hc
    | inert | free | returning | blocked => exact State.modifyElement_modifyElement e _ _ s
  rw [State.takePiece_goal hk, orphaned]
theorem State.takePiece_uncredited (h : s.clock.state.isLive = false ∨ (s.activeProfile e).use = .closed) :
    s.takePiece e = (s.modifyElement e Element.counted).lightLamp e := by
  have uncredited : (s.modifyElement e Element.counted).creditPiece e = s.modifyElement e Element.counted := by
    rw [State.creditPiece_counted]
    split
    · rename_i hl
      rw [h.resolve_left (by simp [hl])]
    · rfl
  rw [State.takePiece_goal hk, uncredited]

end

/-- Settles O11: the piece is counted, credited or an orphan, and the lamp lit, whichever write comes first. -/
theorem goalPieceCountedCreditedAndLit : Obligations.GoalPieceCountedCreditedAndLit := by
  intro e s hk x active amount width shot lit live orphan y counted
  have shoots : x.pulse.trigger width = shot x.pulse width := PulseUnit.trigger_eq _ _
  have plain (unorphaned : ¬ orphan) : (s.modifyElement e Element.counted).lightLamp e = counted := by
    have whole : x.counted.lamped s.clock.state = y := by simp only [y, if_neg unorphaned, ← shoots] <;> rfl
    rw [State.lightLamp_eq, State.modifyElement_modifyElement]
    exact congrArg (s.setElement e) whole
  have credited (a : Alliance) (unorphaned : ¬ orphan) (hl : live) :
      ((s.modifyElement e Element.counted).credit a (active.weight.getD 0)).lightLamp e = counted.addScore a amount := by
    have live : (s.modifyElement e Element.counted).clock.state.isLive = true := hl
    rw [State.credit_live live, State.addScore_lightLamp, plain unorphaned]
    rfl
  refine ⟨fun a hl hu hc => ?_, fun r a hl hu hr ha => ?_, fun h => ?_⟩
  · rw [State.takePiece_auto hk hl hu hc]
    exact credited a (fun ⟨_, claimed, _⟩ => by simp [hu] at claimed) hl
  · rw [State.takePiece_held hk hl hu hr ha]
    exact credited a (fun ⟨_, _, unheld⟩ => by simp [hr, ClaimState.holder] at unheld) hl
  · by_cases ho : orphan
    · obtain ⟨hl, hu, hn⟩ := id ho
      have whole : Element.lamped s.clock.state { x.counted with orphans := countUp x.orphans } = y := by
        simp only [y, if_pos ho, ← shoots] <;> rfl
      rw [State.takePiece_orphan hk hl hu hn, State.lightLamp_eq, State.modifyElement_modifyElement]
      exact congrArg (s.setElement e) whole
    · rw [State.takePiece_uncredited hk ((h.resolve_left ho).imp_left Bool.eq_false_of_not_eq_true)]
      exact plain ho

end Sys2Proof.Machine

namespace Sys2Proof.Machine

/-! # The motions of a gate (R90, R92, R93, R95, R96) -/

section
variable {s : State} {e : Elem}

theorem Element.bothLimits_iff {x : Element} : x.bothLimits = true ↔ x.BothLimits := Bool.and_eq_true_iff
/-- Both limits active jam a gate that starts a motion, whichever its target (R95). -/
theorem State.startMotion_jams (d : Direction) (q : Purpose) (hb : (s.element e).BothLimits) :
    s.startMotion e d q = s.jam e := if_pos (Element.bothLimits_iff.mpr hb)
theorem State.startMotion_arrives {d : Direction} (q : Purpose) (hb : ¬ (s.element e).BothLimits)
    (ht : (s.element e).senseActive (limitOf d) = true) :
    s.startMotion e d q = s.modifyElement e (Element.arrive d) := by
  rw [State.startMotion, if_neg fun k => hb (Element.bothLimits_iff.mp k), if_pos ht]
/-- A gate with its target limit inactive has not both limits active, and is driven (R90). -/
theorem State.startMotion_drives {d : Direction} (q : Purpose) (ht : (s.element e).senseActive (limitOf d) = false) :
    s.startMotion e d q = s.modifyElement e (Element.drive d q) := by
  have single : ¬ (s.element e).bothLimits = true := fun k => by
    obtain ⟨rest, out⟩ := Element.bothLimits_iff.mp k
    cases d
    · exact absurd (out.symm.trans ht) (by decide)
    · exact absurd (rest.symm.trans ht) (by decide)
  rw [State.startMotion, if_neg single, if_neg (by simp [ht])]

theorem limitOf_eq (d : Direction) : limitOf d = if d = .out then .s1 else .s0 := by cases d <;> rfl
theorem arrivedOf_eq (d : Direction) : arrivedOf d = if d = .out then .atOut else .atRest := by cases d <;> rfl
theorem movingOf_eq (d : Direction) : movingOf d = if d = .out then .movingOut else .movingBack := by cases d <;> rfl

/-! ## The begin of a return (R96) -/

theorem State.beginReturn_atRest (hm : (s.element e).motion = .atRest) :
    s.beginReturn e = s.modifyElement e fun x => { x with purpose := .none } := by
  rw [State.beginReturn, hm]
theorem State.beginReturn_starts
    (hm : (s.element e).motion = .atOut ∨ (s.element e).motion = .unknown ∨ (s.element e).motion = .stopped) :
    s.beginReturn e = s.startMotion e .back .ret := by
  rcases hm with hm | hm | hm <;> rw [State.beginReturn, hm]
theorem State.beginReturn_movingBack (hm : (s.element e).motion = .movingBack) :
    s.beginReturn e = s.modifyElement e fun x => { x with purpose := .ret } := by
  rw [State.beginReturn, hm]
theorem State.beginReturn_movingOut (hm : (s.element e).motion = .movingOut) :
    s.beginReturn e = s.modifyElement e (Element.reverse .back .ret) := by
  rw [State.beginReturn, hm]
theorem State.beginReturn_braking {d : Direction} (hm : (s.element e).motion = .braking d) :
    s.beginReturn e = s.modifyElement e fun x => { x with motion := .braking .back, purpose := .ret } := by
  rw [State.beginReturn, hm]

end

/-- Settles O25: a start by the two limits, a return by the motion state. -/
theorem gateMotionsStartJamAndReturn : Obligations.GateMotionsStartJamAndReturn := by
  intro e s x unit stopped shot limit brake
  refine ⟨rfl, ?_, State.beginReturn_atRest, State.beginReturn_starts, State.beginReturn_movingBack,
    State.beginReturn_movingOut, fun d => State.beginReturn_braking⟩
  intro d purpose target
  have aims : x.senseActive (limitOf d) = target := by rw [limitOf_eq]
  refine ⟨fun rest out => State.startMotion_jams d purpose ⟨rest, out⟩, fun ht single => ?_, fun ht => ?_⟩
  · have unjammed : ¬ x.BothLimits := fun ⟨rest, out⟩ => by simp [rest, out] at single
    rw [State.startMotion_arrives purpose unjammed (aims.trans ht), ← arrivedOf_eq]
    rfl
  · rw [State.startMotion_drives purpose (aims.trans ht), ← movingOf_eq]
    exact congrArg (s.setElement e) (Element.drive_eq d purpose x)

/-! # Periodic expiries (R109, R120, R121, R123, R126) -/

section
variable {u : PulseUnit}

theorem PulseUnit.rateReload_eq : u.rateReload =
    match u.pendingTune with
    | some (v, .rate) => { u with period := v, count := v, output := true, pendingTune := none }
    | _ => { u with count := u.period, output := true } := by
  unfold PulseUnit.rateReload PulseUnit.tunedTo
  cases u.pendingTune with
  | none => rfl
  | some t =>
    obtain ⟨v, m⟩ := t
    cases m <;> rfl
theorem PulseUnit.tunedTo_eq_some {v : Nat} {m : Mode} : u.tunedTo m = some v ↔ u.pendingTune = some (v, m) := by
  unfold PulseUnit.tunedTo
  cases u.pendingTune with
  | none => simp
  | some t => simp [Prod.ext_iff, and_comm]
theorem PulseUnit.waveChange_first (hh : u.half = .first) :
    u.waveChange = { u with half := .second, count := u.period / 2, output := false } := by
  rw [PulseUnit.waveChange, hh]
theorem PulseUnit.waveChange_untuned (hh : u.half = .second) (ht : ∀ v, u.pendingTune ≠ some (v, .wave)) :
    u.waveChange = { u with half := .first, count := (u.period + 1) / 2, output := u.run } := by
  have untuned : u.tunedTo .wave = none :=
    Option.eq_none_iff_forall_ne_some.mpr fun v hv => ht v (PulseUnit.tunedTo_eq_some.mp hv)
  rw [PulseUnit.waveChange, hh]
  dsimp only
  rw [untuned]
theorem PulseUnit.waveChange_tuned {v : Nat} (hh : u.half = .second) (ht : u.pendingTune = some (v, .wave)) :
    u.waveChange =
      { u with half := .first, period := v, count := (v + 1) / 2, output := u.run, pendingTune := none } := by
  rw [PulseUnit.waveChange, hh]
  dsimp only
  rw [PulseUnit.tunedTo_eq_some.mpr ht]

end

section
variable {s : State} {e : Elem}

/-- An interval is credited to the alliance of the robot that holds the beacon (R109). -/
theorem State.creditInterval_held {r : Robot} {a : Alliance} (hk : (s.element e).header.kind = .beacon)
    (hc : (s.element e).claim.state = .held r) (ha : (s.robot r).alliance = some a) :
    s.creditInterval e = s.credit a ((s.activeProfile e).weight.getD 0) := by
  rw [State.creditInterval, hk, State.claim, hc]
  dsimp only
  rw [ha]
theorem State.creditInterval_uncredited (h : (s.element e).header.kind ≠ .beacon ∨
    (s.element e).claim.state.holder = none ∨ s.clock.state.isLive = false) : s.creditInterval e = s := by
  unfold State.creditInterval
  split
  · rename_i r hk hc
    split
    · have held : (s.element e).claim.state = .held r := hc
      have unlive : s.clock.state.isLive = false :=
        (h.resolve_left (by simp [hk])).resolve_left (by simp [held, ClaimState.holder])
      exact State.credit_of_not_live unlive _ _
    · rfl
  · rfl

/-- A write of the unit alone leaves what a credit depends on. -/
theorem State.creditInterval_setPulse {w : PulseUnit} {r : Robot} {a : Alliance}
    (hk : (s.element e).header.kind = .beacon) (hc : (s.element e).claim.state = .held r)
    (ha : (s.robot r).alliance = some a) (hl : s.clock.state.isLive = true) :
    (s.setElement e { s.element e with pulse := w }).creditInterval e =
      (s.setElement e { s.element e with pulse := w }).addScore a
        (((s.activeProfile e).weight.getD 0 * s.currentMultiplier.getD 0 : Nat) : Int) := by
  have active : (s.setElement e { s.element e with pulse := w }).activeProfile e = s.activeProfile e := by
    rw [State.activeProfile, State.element_setElement_self]
    rfl
  rw [State.creditInterval_held (r := r) (a := a), active]
  · exact State.credit_live (s := s.setElement e { s.element e with pulse := w }) hl _ _
  · rw [State.element_setElement_self]; exact hk
  · rw [State.element_setElement_self]; exact hc
  · exact ha

end

/-- Settles O23: each expiry that is due acts on its unit, and then on its engine. -/
theorem periodicExpiriesAct : Obligations.PeriodicExpiriesAct := by
  intro e s hr hc x u put active amount
  refine ⟨?_, fun hm => ?_, ?_⟩
  · intro hm w
    have due : u.rateDue = true := by simp [PulseUnit.rateDue, hm, show u.count = 0 from hc]
    have event : exec (.rateExpiry e) s = .next ((put u.rateReload).creditInterval e) :=
      exec_event_due (c := .rateExpiry e) rfl hr due
    have reload : u.rateReload = w := PulseUnit.rateReload_eq
    rw [event, reload]
    refine ⟨fun r a hk hh ha hl => ?_, fun h => ?_⟩
    · exact congrArg _ (State.creditInterval_setPulse hk hh ha hl)
    · refine congrArg _ (State.creditInterval_uncredited ?_)
      rw [State.element_setElement_self]
      exact h
  · have due : u.waveDue = true := by simp [PulseUnit.waveDue, hm, show u.count = 0 from hc]
    have event : exec (.waveHalfChange e) s = .next (put u.waveChange) :=
      exec_event_due (c := .waveHalfChange e) rfl hr due
    rw [event]
    refine ⟨fun hh => ?_, fun hh ht => ?_, fun v hh ht => ?_⟩
    · rw [PulseUnit.waveChange_first hh]
    · rw [PulseUnit.waveChange_untuned hh ht]
    · rw [PulseUnit.waveChange_tuned hh ht]
  · intro hm ho fired
    have due : u.strobeDue = true := by simp [PulseUnit.strobeDue, hm, ho, show u.count = 0 from hc]
    have event : exec (.strobeExpiry e) s = .next (s.strobeExpiry e) :=
      exec_event_due (c := .strobeExpiry e) rfl hr due
    have expires : s.strobeExpiry e = if x.header.kind = .gate then fired.brakeEnd e else fired :=
      State.strobeExpiry_eq e s
    have here : fired.element e = x.strobeFired := State.element_setElement_self _ _ _
    rw [event, expires]
    refine ⟨fun d hk hb => ?_, fun h => ?_⟩
    · have braking : (fired.element e).motion = .braking d := by rw [here]; exact hb
      rw [if_pos hk, State.brakeEnd_braking braking, here]
      rfl
    · split
      · have unbraked : (fired.element e).motion.pending = none := by
          rw [here, Option.eq_none_iff_forall_ne_some]
          exact fun d hd => (h.resolve_left (not_not_intro ‹_›)) d (Motion.pending_eq_some.mp hd)
        rw [State.brakeEnd_unbraked unbraked]
      · rfl

end Sys2Proof.Machine

namespace Sys2Proof.Machine

/-! # Follow-ups: a feed that waited, a gate that arrives (R93, R103, R104, R121) -/

section
variable {s : State} {e : Elem}

theorem State.startPendingFeed_starts (hf : s.feedAllowed e = true) :
    s.startPendingFeed e = s.setElement e ((s.element e).startFeed (s.activeProfile e)) := if_pos hf
theorem State.startPendingFeed_clears (hf : ¬ s.feedAllowed e = true) :
    s.startPendingFeed e = s.setElement e { s.element e with feedPending := false } := if_neg hf
theorem State.takeArrival_moving {d : Direction} (hm : (s.element e).motion.moving = some d) :
    s.takeArrival e = (s.modifyElement e (Element.arrive d)).finishReturn e := by
  rw [State.takeArrival, hm]
/-- An arrival ends a return exactly at rest in RETURNING (R93). -/
theorem Element.arrive_returnDue {x : Element} (hk : x.header.kind = .gate) (d : Direction) :
    (x.arrive d).returnDue = (decide (x.claim.state = .returning) && decide (d = .back)) := by
  rw [Element.returnDue_gate (x := x.arrive d) hk]
  cases d <;> rfl
theorem State.takeArrival_ends {d : Direction} (hk : (s.element e).header.kind = .gate)
    (hm : (s.element e).motion.moving = some d) (hd : (s.element e).claim.state = .returning ∧ d = .back) :
    s.takeArrival e = (s.setElement e ((s.element e).arrive d)).settleReturn e := by
  rw [State.takeArrival_moving hm]
  refine State.finishReturn_due ?_
  rw [State.element_modifyElement_self, Element.arrive_returnDue hk]
  simp [hd]
theorem State.takeArrival_stands {d : Direction} (hk : (s.element e).header.kind = .gate)
    (hm : (s.element e).motion.moving = some d) (hd : (s.element e).claim.state = .returning → d = .out) :
    s.takeArrival e = s.setElement e ((s.element e).arrive d) := by
  rw [State.takeArrival_moving hm]
  refine State.finishReturn_idle ?_
  rw [State.element_modifyElement_self, Element.arrive_returnDue hk]
  simp only [Bool.and_eq_false_imp, decide_eq_true_eq, decide_eq_false_iff_not]
  exact fun returning => by simp [hd returning]
/-- The arrival of a moving gate is due at its target limit. -/
theorem exec_gateArrival {d : Direction} (hr : s.rst = false) (hk : (s.element e).header.kind = .gate)
    (hm : (s.element e).motion.moving = some d) (hl : (s.element e).senseActive (limitOf d) = true) :
    exec (.gateArrival e) s = .next (s.takeArrival e) :=
  exec_event_due (c := .gateArrival e) rfl hr (show (s.element e).arrivalDue = true by
    simp [Element.arrivalDue, hk, hm, hl])

end

/-- Settles O24: the feed that waited starts or is forgotten, and the gate that arrives stands and may end a return. -/
theorem followUpsFeedStartAndArrival : Obligations.FollowUpsFeedStartAndArrival := by
  intro e s hr x active n tuned
  refine ⟨?_, ?_⟩
  · intro hk hp hm allowed
    have event : exec (.feedPendingStart e) s = .next (s.startPendingFeed e) :=
      exec_event_due (c := .feedPendingStart e) rfl hr (show x.feedDue = true by simp [Element.feedDue, hk, hp, hm])
    have feeds : s.feedAllowed e = true ↔ allowed := State.feedAllowed_iff hk
    have kept : x.pulse.keptTune .wave = tuned := PulseUnit.keptTune_wave _
    rw [event]
    refine ⟨fun ha h1 => ?_, fun ha h1 => ?_, fun ha => ?_⟩
    · rw [State.startPendingFeed_starts (feeds.mpr ha), Element.startFeed_eq]
      simp only [show (s.element e).senseActive .s1 = _ from h1, ← kept]
      rfl
    · rw [State.startPendingFeed_starts (feeds.mpr ha), Element.startFeed_eq]
      simp only [show (s.element e).senseActive .s1 = _ from h1, ← kept]
      rfl
    · rw [State.startPendingFeed_clears fun k => ha (feeds.mp k)]
  · intro hk arrived
    refine ⟨fun hm hl => ?_, fun hm hl hn => ?_, fun hm hl hc => ?_⟩
    · have moving : x.motion.moving = some .out := by rw [hm]; rfl
      rw [exec_gateArrival hr hk moving hl, State.takeArrival_stands hk moving fun _ => rfl]
      rfl
    · have moving : x.motion.moving = some .back := by rw [hm]; rfl
      rw [exec_gateArrival hr hk moving hl, State.takeArrival_stands hk moving fun k => absurd k hn]
      rfl
    · have moving : x.motion.moving = some .back := by rw [hm]; rfl
      rw [exec_gateArrival hr hk moving hl, State.takeArrival_ends hk moving ⟨hc, rfl⟩]
      rfl

/-! # Accepted sense changes (R95, R104, R105, R122, R137, R138) -/

/-- An element whose sense input takes its accepted change: the other level, and nothing pending (R137). -/
def Element.accepted (i : SenseId) (x : Element) : Element := x.setSense i ⟨!(x.sense i).high, none⟩

theorem EdgeChoice.marks_iff {c : EdgeChoice} {b : Bool} :
    c.marks b = true ↔ c = .any ∨ (c = .active ↔ b = true) := by
  cases c <;> cases b <;> simp [EdgeChoice.marks]
theorem Motion.jamChecked_iff {m : Motion} : m.jamChecked = true ↔ m ≠ .unknown ∧ m ≠ .stopped := by
  cases m <;> simp [Motion.jamChecked]

section
variable {s : State} {e : Elem} {i : SenseId} {y : Element}

/-! ## The engine of each kind -/

theorem State.acceptSense_gate (hy : (s.element e).accepted i = y) (hk : y.header.kind = .gate) :
    s.acceptSense e i = if y.motion.jamChecked && y.bothLimits then (s.setElement e y).jam e else s.setElement e y := by
  subst hy
  unfold State.acceptSense
  dsimp only
  rw [State.element_modifyElement_self, show ((s.element e).setSense i _).header.kind = _ from hk]
  rfl
/-- S0 of a dispenser or a goal counts a piece on its edge. -/
theorem State.acceptSense_piece (hy : (s.element e).accepted .s0 = y)
    (hk : y.header.kind = .dispenser ∨ y.header.kind = .goal) : s.acceptSense e .s0 =
      if y.header.s0.edge.marks (y.senseActive .s0) then (s.setElement e y).takePiece e else s.setElement e y := by
  subst hy
  unfold State.acceptSense
  dsimp only
  rcases hk with hk | hk <;>
  · rw [State.element_modifyElement_self, show ((s.element e).setSense .s0 _).header.kind = _ from hk]
    rfl
/-- S1 of a dispenser tells its feed. -/
theorem State.acceptSense_feed (hy : (s.element e).accepted .s1 = y) (hk : y.header.kind = .dispenser) :
    s.acceptSense e .s1 =
      match y.feed, y.senseActive .s1 with
      | .running, true => (s.setElement e y).modifyElement e fun x => { x with pulse := x.pulse.hold, feed := .held }
      | .held, false =>
        (s.setElement e y).modifyElement e fun x => { x with pulse := x.pulse.continueWave, feed := .running }
      | _, _ => s.setElement e y := by
  subst hy
  unfold State.acceptSense
  dsimp only
  rw [State.element_modifyElement_self, show ((s.element e).setSense .s1 _).header.kind = _ from hk]
  rfl
theorem State.modifyElement_setElement (f : Element → Element) :
    (s.setElement e y).modifyElement e f = s.setElement e (f y) := State.modifyElement_modifyElement e (fun _ => y) f s
theorem State.acceptSense_holds (hy : (s.element e).accepted .s1 = y) (hk : y.header.kind = .dispenser)
    (hf : y.feed = .running) (ha : y.senseActive .s1 = true) :
    s.acceptSense e .s1 = s.setElement e { y with pulse := y.pulse.hold, feed := .held } := by
  rw [State.acceptSense_feed hy hk, hf, ha]
  exact State.modifyElement_setElement _
theorem State.acceptSense_continues (hy : (s.element e).accepted .s1 = y) (hk : y.header.kind = .dispenser)
    (hf : y.feed = .held) (ha : y.senseActive .s1 = false) :
    s.acceptSense e .s1 = s.setElement e { y with pulse := y.pulse.continueWave, feed := .running } := by
  rw [State.acceptSense_feed hy hk, hf, ha]
  exact State.modifyElement_setElement _
theorem State.acceptSense_feedStays (hy : (s.element e).accepted .s1 = y) (hk : y.header.kind = .dispenser)
    (hh : ¬ (y.feed = .running ∧ y.senseActive .s1 = true)) (hc : ¬ (y.feed = .held ∧ y.senseActive .s1 = false)) :
    s.acceptSense e .s1 = s.setElement e y := by
  rw [State.acceptSense_feed hy hk]
  split
  · exact absurd ⟨‹_›, ‹_›⟩ hh
  · exact absurd ⟨‹_›, ‹_›⟩ hc
  · rfl
/-- No engine takes S1 of a goal, or an input of an element of kind NONE or BEACON. -/
theorem State.acceptSense_unread (hy : (s.element e).accepted i = y)
    (hk : y.header.kind = .none ∨ y.header.kind = .beacon ∨ y.header.kind = .goal ∧ i = .s1) :
    s.acceptSense e i = s.setElement e y := by
  subst hy
  unfold State.acceptSense
  dsimp only
  rcases hk with hk | hk | ⟨hk, rfl⟩ <;>
  · rw [State.element_modifyElement_self, show ((s.element e).setSense _ _).header.kind = _ from hk]
    rfl

end

/-- Settles O26: the accepted change is taken by the engine of the element's kind. -/
theorem senseChangeReachesEngine : Obligations.SenseChangeReachesEngine := by
  intro e i s hr hp y v k nowActive piece jams holds continues
  have event : exec (.senseChangeAccepted e i) s = .next (s.acceptSense e i) :=
    exec_event_due (c := .senseChangeAccepted e i) rfl hr (show acceptedDue _ = true by rw [hp]; rfl)
  have hy : (s.element e).accepted i = y := rfl
  have checked : (y.motion.jamChecked && y.bothLimits) = true ↔ y.motion ≠ .unknown ∧ y.motion ≠ .stopped ∧
      y.senseActive .s0 = true ∧ y.senseActive .s1 = true := by
    rw [Bool.and_eq_true, Motion.jamChecked_iff, Element.bothLimits_iff, and_assoc]
    rfl
  rw [event]
  refine ⟨?_, ?_, ?_, ?_, ?_, ?_⟩
  · rintro ⟨hk, hj⟩
    rw [State.acceptSense_gate hy hk, if_pos (checked.mpr hj)]
  · rintro ⟨rfl, hk, he⟩ -
    rw [State.acceptSense_piece hy hk, if_pos (EdgeChoice.marks_iff.mpr he)]
  · rintro ⟨rfl, hk, he⟩ hd
    rw [State.acceptSense_piece hy hk, if_pos (EdgeChoice.marks_iff.mpr he), State.takePiece,
      State.element_setElement_self, show y.header.kind = _ from hd]
    exact congrArg _ (State.modifyElement_setElement _)
  · rintro ⟨rfl, hk, hf, ha⟩
    have held : y.pulse.hold = if y.pulse.mode = .wave ∧ y.pulse.run = true then
        { y.pulse with run := false, output := false } else y.pulse := by simp [PulseUnit.hold]
    rw [State.acceptSense_holds hy hk hf ha, held]
  · rintro ⟨rfl, hk, hf, ha⟩
    have continued : y.pulse.continueWave = if y.pulse.mode = .wave ∧ y.pulse.run = false then
        { y.pulse with run := true, output := decide (y.pulse.half = .first) } else y.pulse := by
      simp [PulseUnit.continueWave]
    rw [State.acceptSense_continues hy hk hf ha, continued]
  · intro hj hn hh hc
    refine congrArg _ ?_
    have unmarked (h0 : i = .s0) (hk : y.header.kind = .dispenser ∨ y.header.kind = .goal) :
        s.acceptSense e i = v := by
      subst h0
      rw [State.acceptSense_piece hy hk, if_neg fun he => hn ⟨rfl, hk, EdgeChoice.marks_iff.mp he⟩]
    cases hk : y.header.kind with
    | gate => rw [State.acceptSense_gate hy hk, if_neg fun c => hj ⟨hk, checked.mp c⟩]
    | none => exact State.acceptSense_unread hy (.inl hk)
    | beacon => exact State.acceptSense_unread hy (.inr (.inl hk))
    | goal =>
      cases hi : i with
      | s0 => exact hi ▸ unmarked hi (.inr hk)
      | s1 => exact hi ▸ State.acceptSense_unread hy (.inr (.inr ⟨hk, hi⟩))
    | dispenser =>
      cases hi : i with
      | s0 => exact hi ▸ unmarked hi (.inl hk)
      | s1 =>
        subst hi
        exact State.acceptSense_feedStays hy hk (fun ⟨hf, ha⟩ => hh ⟨rfl, hk, hf, ha⟩)
          fun ⟨hf, ha⟩ => hc ⟨rfl, hk, hf, ha⟩

end Sys2Proof.Machine

namespace Sys2Proof.Machine

/-! # Drive lines and pins (R89, R90, R139, R160) -/

section
variable {s : State} {e : Elem}

theorem State.forced_iff : s.forced e = true ↔
    (s.stop (s.element e).header.group).asserted = true ∨ s.clock.state = .halted ∨ s.rst = true := by
  simp [State.forced, or_assoc]
theorem State.driveActive_forced (h : s.forced e = true) (l : Line) : s.driveActive e l = false := by
  simp [State.driveActive, h]
theorem State.driveActive_unforced (h : ¬ s.forced e = true) (l : Line) :
    s.driveActive e l = (s.element e).lineRequest l := by
  simp [State.driveActive, h]

end

section
variable {x : Element}

/-- A LINE TEST routes the unit to the line that it names alone. -/
theorem Element.lineRequest_tested {m : Line} (ht : x.test = some m) (l : Line) :
    x.lineRequest l = true ↔ m = l ∧ x.pulse.output = true := by
  simp [Element.lineRequest, ht]
theorem Element.lineRequest_untested (ht : x.test = none) (l : Line) : x.lineRequest l = x.engineRequest l := by
  rw [Element.lineRequest, ht]

/-! ## The request of each engine (R89) -/

theorem Element.engineRequest_out (hk : x.header.kind = .gate) :
    x.engineRequest .d0 = true ↔ x.motion = .movingOut := by
  simp [Element.engineRequest, hk]
theorem Element.engineRequest_back (hk : x.header.kind = .gate) :
    x.engineRequest .d1 = true ↔ x.motion = .movingBack := by
  simp [Element.engineRequest, hk]
/-- A dispenser and a goal drive D0 by their unit. -/
theorem Element.engineRequest_pulsed (hk : x.header.kind = .dispenser ∨ x.header.kind = .goal) :
    x.engineRequest .d0 = x.pulse.output := by
  rcases hk with hk | hk <;> simp [Element.engineRequest, hk]
/-- A beacon drives D0 while it is held. -/
theorem Element.engineRequest_beacon (hk : x.header.kind = .beacon) :
    x.engineRequest .d0 = x.claim.state.holder.isSome := by
  unfold Element.engineRequest
  rw [hk]
  cases x.claim.state <;> rfl
theorem Element.engineRequest_unused {l : Line} (h : x.header.kind = .none ∨ l = .d1 ∧ x.header.kind ≠ .gate) :
    x.engineRequest l = false := by
  rcases h with hk | ⟨rfl, hk⟩
  · simp [Element.engineRequest, hk]
  · unfold Element.engineRequest
    split
    all_goals first
      | rfl
      | contradiction

/-- The lines of a gate are never requested together, tested or not. -/
theorem Element.lineRequest_exclusive (hk : x.header.kind = .gate) (h0 : x.lineRequest .d0 = true) :
    x.lineRequest .d1 = false := by
  refine Bool.eq_false_iff.mpr fun h1 => ?_
  cases ht : x.test with
  | some m =>
    have routed := ((Element.lineRequest_tested ht _).mp h0).1.symm.trans ((Element.lineRequest_tested ht _).mp h1).1
    cases routed
  | none =>
    rw [Element.lineRequest_untested ht] at h0 h1
    have both := ((Element.engineRequest_out hk).mp h0).symm.trans ((Element.engineRequest_back hk).mp h1)
    cases both

end

/-- Settles O28: a forcing, then the line test, then the engine. -/
theorem driveLinesFollowRequestsUnlessForced : Obligations.DriveLinesFollowRequestsUnlessForced := by
  intro e l s x forced requested
  have isForced : s.forced e = true ↔ forced := State.forced_iff
  have engine : x.engineRequest l = true ↔ requested := by
    cases hk : x.header.kind with
    | gate =>
      cases l with
      | d0 => simp only [requested, hk, Element.engineRequest_out hk]
      | d1 => simp only [requested, hk, Element.engineRequest_back hk]
    | dispenser =>
      cases l with
      | d0 => simp only [requested, hk, Element.engineRequest_pulsed (.inl hk)]
      | d1 => simp [requested, hk, Element.engineRequest_unused]
    | goal =>
      cases l with
      | d0 => simp only [requested, hk, Element.engineRequest_pulsed (.inr hk)]
      | d1 => simp [requested, hk, Element.engineRequest_unused]
    | beacon =>
      cases l with
      | d0 => simp only [requested, hk, Element.engineRequest_beacon hk]
      | d1 => simp [requested, hk, Element.engineRequest_unused]
    | none => simp [requested, hk, Element.engineRequest_unused]
  refine ⟨fun hf => State.driveActive_forced (isForced.mpr hf) l, fun hf m ht => ?_, fun hf ht => ?_, fun hk h0 => ?_,
    fun hr => if_pos hr, fun hr => ?_⟩
  · rw [State.driveActive_unforced (mt isForced.mp hf), Element.lineRequest_tested ht]
  · rw [State.driveActive_unforced (mt isForced.mp hf), Element.lineRequest_untested ht, engine]
  · by_cases hf : s.forced e = true
    · exact State.driveActive_forced hf .d1
    · rw [State.driveActive_unforced hf] at h0 ⊢
      exact Element.lineRequest_exclusive hk h0
  · rw [State.drivePin, if_neg (by simp [hr])]
    rfl

end Sys2Proof.Machine

namespace Sys2Proof.Machine

/-! # MOVE (R91, R92, Table 5-3) -/

theorem directionOf_byte (d : Direction) : directionOf (byte (if d = .out then 0 else 1)) = some d := by cases d <;> rfl
theorem directionOf_none {b : Byte} (h : 2 ≤ b.toNat) : directionOf b = none := by
  unfold directionOf
  split
  · exact absurd h (by decide)
  · exact absurd h (by decide)
  · rfl

/-- MOVE with an argument out of range. -/
theorem State.moveRequest_badArg {s : State} {p : Port} {rb eb db : Byte}
    (h : 16 ≤ rb.toNat ∨ 24 ≤ eb.toNat ∨ 2 ≤ db.toNat) : s.moveRequest p rb eb db = (s, refuse .badArg) := by
  unfold State.moveRequest
  split
  · rename_i hr he hd
    rcases h with h | h | h
    · simp [robotOf_none h] at hr
    · simp [elementOf_none h] at he
    · simp [directionOf_none h] at hd
  · rfl

section
variable {s : State} {r : Robot} {e : Elem} {d : Direction}

/-- MOVE of a robot on an element, check by check (R91). -/
theorem State.moveRequest_eq (p : Port) :
    s.moveRequest p (byte r.val) (byte e.val) (byte (if d = .out then 0 else 1)) =
      if ¬ (s.robot r).bound = some p then (s, refuse .notYours)
      else if ¬ s.clock.state.isLive = true then (s, refuse .phase)
      else if (s.element e).header.kind ≠ .gate then (s, refuse .badArg)
      else if (s.element e).claim.state = .held r then s.moveGate e d
      else (s, refuse .notHolder) := by
  rw [State.moveRequest, robotOf_byte, elementOf_byte, directionOf_byte]
  simp only [State.isYours, Bool.not_eq_true', decide_eq_false_iff_not, Bool.not_eq_true]
  rfl

/-! ## The effect by the motion state (R92) -/

theorem State.moveGate_there (hm : (s.element e).motion = if d = .out then .atOut else .atRest) :
    s.moveGate e d = (s, ⟨.already, []⟩) := by
  unfold State.moveGate
  rw [hm]
  cases d <;> rfl
theorem State.moveGate_onItsWay (hm : (s.element e).motion = if d = .out then .movingOut else .movingBack) :
    s.moveGate e d = (s, refuse .busy) := by
  unfold State.moveGate
  rw [hm]
  cases d <;> rfl
theorem State.moveGate_braking {next : Direction} (hm : (s.element e).motion = .braking next) :
    s.moveGate e d = (s, refuse .busy) := by
  unfold State.moveGate
  rw [hm]
theorem State.moveGate_reverses (hm : (s.element e).motion = if d = .out then .movingBack else .movingOut) :
    s.moveGate e d = (s.modifyElement e fun x => x.reverse d x.purpose).moveAnswer e := by
  unfold State.moveGate
  rw [hm]
  cases d <;> rfl
theorem State.moveGate_starts (hm : (s.element e).motion = (if d = .out then .atRest else .atOut) ∨
    (s.element e).motion = .unknown ∨ (s.element e).motion = .stopped) :
    s.moveGate e d = (s.startMotion e d .holder).moveAnswer e := by
  unfold State.moveGate
  rcases hm with hm | hm | hm
  · rw [hm]
    cases d <;> rfl
  · rw [hm]
  · rw [hm]

end

/-- Settles O37: the checks one after the other, then the motion state. -/
theorem moveActsByMotionState : Obligations.MoveActsByMotionState := by
  intro p s hh hrole
  generalize hu : s.examined p = v
  intro u
  have ran : ∀ {rb eb db : Byte} {t : State} {a : Answer}, v.moveRequest p rb eb db = (t, a) →
      exec (.move p rb eb db) s = .next (t.answered p (a.status.code :: padded 1 a.bytes)) := fun hb =>
    exec_bridge (c := .move p _ _ _) rfl rfl hh hrole hu hb
  refine ⟨fun rb eb db h => ran (State.moveRequest_badArg h), fun r e d => ?_⟩
  intro x run answers started brake reversed yours live passed
  have checked := State.moveRequest_eq (s := v) (r := r) (e := e) (d := d) p
  have moved : passed → v.moveRequest p (byte r.val) (byte e.val) (byte (if d = .out then 0 else 1)) = v.moveGate e d :=
    fun ⟨hy, hl, hk, hc⟩ => by
      rw [checked, if_neg (not_not.mpr hy), if_neg (not_not.mpr hl), if_neg (not_not.mpr hk), if_pos hc]
  refine ⟨fun hy => ran (a := refuse .notYours) ?_, fun hy hl => ran (a := refuse .phase) ?_,
    fun hy hl hk => ran (a := refuse .badArg) ?_, fun hy hl hk hc => ran (a := refuse .notHolder) ?_,
    fun hp hm => ran ((moved hp).trans (State.moveGate_there hm)),
    fun hp hm => ran ((moved hp).trans (State.moveGate_onItsWay hm)),
    fun next hp hm => ran ((moved hp).trans (State.moveGate_braking hm)),
    fun hp hm => ?_, fun hp hm => ran ((moved hp).trans (State.moveGate_starts hm))⟩
  · rw [checked, if_pos hy]
  · rw [checked, if_neg (not_not.mpr hy), if_pos hl]
  · rw [checked, if_neg (not_not.mpr hy), if_neg (not_not.mpr hl), if_pos hk]
  · rw [checked, if_neg (not_not.mpr hy), if_neg (not_not.mpr hl), if_neg (not_not.mpr hk), if_neg hc]
  · have answer := ran ((moved hp).trans (State.moveGate_reverses hm))
    rw [State.element_modifyElement_self] at answer
    exact answer

/-! # DISPENSE (R100, R118, R126) -/

/-- DISPENSE with an argument out of range. -/
theorem State.dispenseRequest_badArg {s : State} {p : Port} {rb eb : Byte} (h : 16 ≤ rb.toNat ∨ 24 ≤ eb.toNat) :
    s.dispenseRequest p rb eb = (s, refuse .badArg) := by
  unfold State.dispenseRequest
  split
  · rename_i hr he
    rcases h with h | h
    · simp [robotOf_none h] at hr
    · simp [elementOf_none h] at he
  · rfl
/-- A release shot, its count and the quota mark of the shot that fills the quota (R100). -/
theorem Element.fire_eq (quota : Nat) (x : Element) : x.fire quota =
    { x with
      pulse := x.pulse.trigger (x.header.releaseWidth.getD 0)
      test := none
      shots := min 255 (x.shots + 1)
      quotaMark := x.quotaMark || decide (0 < quota ∧ quota ≤ min 255 (x.shots + 1)) } := by
  simp [Element.fire, Element.drivePulse, Config.shotLimit]

section
variable {s : State} {r : Robot} {e : Elem}

/-- The shot of a DISPENSE that passes its checks. -/
def State.dispensed (e : Elem) (s : State) : State :=
  s.setElement e ((s.element e).fire ((s.activeProfile e).quota.getD 0))
/-- DISPENSE of a robot on an element, check by check (R100). -/
theorem State.dispenseRequest_eq (p : Port) : s.dispenseRequest p (byte r.val) (byte e.val) =
    if ¬ (s.robot r).bound = some p then (s, refuse .notYours)
    else if ¬ s.clock.state.isLive = true then (s, refuse .phase)
    else if (s.element e).header.kind ≠ .dispenser then (s, refuse .badArg)
    else if (s.element e).claim.state ≠ .held r then (s, refuse .notHolder)
    else if (s.element e).senseActive .s1 = true then (s, refuse .empty)
    else if (s.element e).pulse.mode = .shot then (s, refuse .busy)
    else (s.dispensed e, accept [byte (min 255 ((s.element e).shots + 1)), byte ((s.activeProfile e).quota.getD 0)]) := by
  have shots : ((s.dispensed e).element e).shots = min 255 ((s.element e).shots + 1) := by
    rw [State.dispensed, State.element_setElement_self]
    rfl
  rw [State.dispenseRequest, robotOf_byte, elementOf_byte, ← shots]
  simp only [State.isYours, Bool.not_eq_true', decide_eq_false_iff_not, Bool.not_eq_true]
  rfl

end

/-- Settles O38: the checks one after the other, then the shot. -/
theorem dispenseFiresReleaseShot : Obligations.DispenseFiresReleaseShot := by
  intro p s hh hrole
  generalize hu : s.examined p = v
  intro u
  have ran : ∀ {rb eb : Byte} {t : State} (a : Answer), v.dispenseRequest p rb eb = (t, a) →
      exec (.dispense p rb eb) s = .next (t.answered p (a.status.code :: padded 2 a.bytes)) := fun a hb =>
    exec_bridge (c := .dispense p _ _) rfl rfl hh hrole hu hb
  refine ⟨fun rb eb h => ran (refuse .badArg) (State.dispenseRequest_badArg h), fun r e => ?_⟩
  intro x width shot run answers yours live kind holds ready quota shots
  have checked := State.dispenseRequest_eq (s := v) (r := r) (e := e) p
  refine ⟨fun hy => ran (refuse .notYours) ?_, fun hy hl => ran (refuse .phase) ?_,
    fun hy hl hk => ran (refuse .badArg) ?_, fun hy hl hk hc => ran (refuse .notHolder) ?_,
    fun hy hl hk hc he => ran (refuse .empty) ?_, fun hy hl hk hc he hm => ran (refuse .busy) ?_,
    fun hy hl hk hc he hm => ?_⟩
  · rw [checked, if_pos hy]
  · rw [checked, if_neg (not_not.mpr hy), if_pos hl]
  · rw [checked, if_neg (not_not.mpr hy), if_neg (not_not.mpr hl), if_pos hk]
  · rw [checked, if_neg (not_not.mpr hy), if_neg (not_not.mpr hl), if_neg (not_not.mpr hk), if_pos hc]
  · rw [checked, if_neg (not_not.mpr hy), if_neg (not_not.mpr hl), if_neg (not_not.mpr hk), if_neg (not_not.mpr hc),
      if_pos (Bool.eq_true_of_not_eq_false he)]
  · rw [checked, if_neg (not_not.mpr hy), if_neg (not_not.mpr hl), if_neg (not_not.mpr hk), if_neg (not_not.mpr hc),
      if_neg (Bool.eq_false_iff.mp he), if_pos hm]
  · have fires : x.pulse.trigger width = shot := PulseUnit.trigger_eq _ _
    have answer := ran _ (checked.trans (by
      rw [if_neg (not_not.mpr hy), if_neg (not_not.mpr hl), if_neg (not_not.mpr hk), if_neg (not_not.mpr hc),
        if_neg (Bool.eq_false_iff.mp he), if_neg hm]))
    rw [State.dispensed, Element.fire_eq, fires] at answer
    exact answer

end Sys2Proof.Machine
